-- ==== Sys2Proof/Word.lean ====
section
/-!
DEFINITION. The plain types the whole model speaks in: words, bytes, and the named alternatives the
spec uses for lines, levels, drive states and the two one-bit operands.
-/

namespace Sys2Proof

/-- A command word, or the data of one host access (30_encoding R80, 20_memory R52). -/
abbrev Word := BitVec 32

/-- A byte on the wire (00_scope R7: "8 bits plus 1 acknowledgement bit"). -/
abbrev Byte := BitVec 8

/-- The two open-drain lines (00_scope R8): clock and data. -/
inductive Line where
  | scl
  | sda
  deriving DecidableEq, Repr, Inhabited

/-- A line level (00_scope R9): Low is 0, High is 1. -/
inductive Level where
  | low
  | high
  deriving DecidableEq, Repr, Inhabited

/-- A line's drive state (10_state R22). There is no "drive high" (R26). -/
inductive Drive where
  | drivingLow
  | released
  deriving DecidableEq, Repr, Inhabited

/-- The operand `A` of SENDA (30_encoding R85): WRITE is 0, READ is 1. -/
inductive RwSel where
  | write
  | read
  deriving DecidableEq, Repr, Inhabited

/-- The operand `A` of RECV, the source's `send_ack` (30_encoding R85): NACK is 0, ACK is 1. -/
inductive AckSel where
  | nack
  | ack
  deriving DecidableEq, Repr, Inhabited

end Sys2Proof
end

