-- ==== Sys2Proof/Config.lean ====
section
/-!
DEFINITION. What one implementation or its surroundings fix, and the free values: the draws of the
bus environment and of the GPIO subsystem, the place of the register window, and the delay lengths.
Each `opaque` constant has no body: nothing can evaluate it, so a theorem holds whatever it is.
-/

namespace Sys2Proof

/-- FREE VALUE (log 3). `Env.level` of 00_scope R16: the level the bus environment presents on a
released line at a sample. The second argument numbers the draws, so that "each sample of a released
line is a fresh draw". -/
opaque Config.envLevel : Line → Nat → Level

/-- FREE VALUE (log 4). `init_ok` of 40_open R101: what the GPIO subsystem answers to an INIT. -/
opaque Config.initOk : Nat → Bool

/-- Which 32-byte block of the host's address space holds the register window (log 9). -/
opaque Config.baseBlock : Nat

/-- `BASE` (00_scope R7, 20_memory R50): "any 32-byte-aligned address; OPEN". -/
def Config.base : Nat := 32 * Config.baseBlock

/-- `DLY_STEP(bd)` (42_timing R121): every unqualified "delay". Exact, with no wrap (log 16). -/
def Config.dlyStep (bd : Word) : Nat := bd.toNat

/-- `DLY_HALF(bd)` (42_timing R121). -/
def Config.dlyHalf (bd : Word) : Nat := 2 * bd.toNat

/-- `DLY_FULL(bd)` (42_timing R121): "`4·bd` does not wrap at 32 bits". -/
def Config.dlyFull (bd : Word) : Nat := 4 * bd.toNat

end Sys2Proof
end

