-- ==== Sys2Proof/Syntax.lean ====
section
/-!
DEFINITION. The 13 commands of I2CBB-CMD version 1, one constructor per row of the opcode table
(30_encoding R86), with their operands as the encoding's fields give them (R81 to R85).
-/

namespace Sys2Proof

/-- A decoded command. The comment on each constructor names the rule that gives its meaning. -/
inductive Instr where
  /-- OPEN (40_open R100) -/
  | openSession
  /-- DRIVE_LOW l (41_line_driver R110) -/
  | driveLow (l : Line)
  /-- RELEASE l (41_line_driver R111) -/
  | release (l : Line)
  /-- READ l (41_line_driver R112) -/
  | read (l : Line)
  /-- DELAY n (42_timing R120) -/
  | delay (n : BitVec 16)
  /-- RAISE_SCL (43_stretch_gate R131) -/
  | raiseScl
  /-- BUSFREE (44_conditions R141) -/
  | busfree
  /-- START (44_conditions R142) -/
  | start
  /-- RESTART (44_conditions R143) -/
  | restart
  /-- STOP (44_conditions R144) -/
  | stop
  /-- SEND b (45_byte_transfer R160) -/
  | send (b : Byte)
  /-- SENDA rw (45_byte_transfer R163) -/
  | senda (rw : RwSel)
  /-- RECV ack (45_byte_transfer R165) -/
  | recv (a : AckSel)
  deriving DecidableEq, Repr

end Sys2Proof
end

