-- ==== Sys2Proof/WellFormed.lean ====
section
/-!
DEFINITION. The checks a host program's text must pass before it becomes command words
(30_encoding R90, R91): "An assembler refuses an operand outside its range. It never truncates."
A command (`Instr`) needs no check of its own: its operand types hold exactly the values its field
holds. An assembler line can be ill-formed, because its operands are unbounded numbers.
-/

namespace Sys2Proof

/-- One line of assembly text: the 13 commands (30_encoding R90) and the pseudo-instructions (R91).
`RECV.ACK`, `RECV.NACK`, `SENDA.W` and `SENDA.R` are spellings only and are the lines `recv` and
`senda`. -/
inductive AsmLine where
  | openSession
  | driveLow (l : Line)
  | release (l : Line)
  | read (l : Line)
  | delay (n : Nat)
  | raiseScl
  | busfree
  | start
  | restart
  | stop
  | send (b : Nat)
  | senda (rw : RwSel)
  | recv (a : AckSel)
  /-- `SEND_ADDR a, rw` -/
  | sendAddr (a : Nat) (rw : RwSel)
  /-- `RELEASE_ALL` -/
  | releaseAll
  /-- `REPSTART` -/
  | repStart
  deriving DecidableEq, Repr

/-- The operand ranges: `n` is 0 to 65535, `b` is 0 to 255 (30_encoding R90), and `SEND_ADDR`'s `a`
is 0 to 127 (R91, 90_conflicts C2). -/
def AsmLine.wellFormed : AsmLine → Bool
  | .delay n => n < 65536
  | .send b => b < 256
  | .sendAddr a _ => a < 128
  | .openSession | .driveLow _ | .release _ | .read _ | .raiseScl | .busfree | .start
  | .restart | .stop | .senda _ | .recv _ | .releaseAll | .repStart => true

end Sys2Proof
end

