-- ==== Sys2Proof/Decode.lean ====
section
/-!
DEFINITION. Decoding of a command word (30_encoding R80 to R89) by the table of R86, total, rejecting
by name; then the encoder and the assembler (R90, R91); then the same decoder as the host numbers a
word's bits.
-/

namespace Sys2Proof

/-! ## Operand assembly (30_encoding R81 to R85) -/

/-- `op`, bits 3:0 (R81). -/
def opField (w : Word) : BitVec 4 := w.extractLsb' 0 4

/-- `imm8`, bits 15:8 (R82): taken as is. -/
def imm8Field (w : Word) : Byte := w.extractLsb' 8 8

/-- `N`, bits 31:16 (R83). -/
def nField (w : Word) : BitVec 16 := w.extractLsb' 16 16

/-- `L`, bit 4 (R84): 0 is SCL, 1 is SDA. -/
def lineField (w : Word) : Line := if w.getLsbD 4 then .sda else .scl

/-- `A`, bit 5, as SENDA reads it (R85). -/
def rwField (w : Word) : RwSel := if w.getLsbD 5 then .read else .write

/-- `A`, bit 5, as RECV reads it (R85). -/
def ackField (w : Word) : AckSel := if w.getLsbD 5 then .ack else .nack

/-! ## Decode -/

/-- One row of the opcode map (R86): a word is the command of the row when `(word & mask) == match`.
`build` assembles the row's operands. -/
structure OpRow where
  pattern : Word
  mask : Word
  build : Word → Instr

/-- The opcode map (R86), in the table's order. -/
def opRows : List OpRow := [
  ⟨0x00000001, 0xFFFFFFFF, fun _ => .openSession⟩,
  ⟨0x00000002, 0xFFFFFFEF, fun w => .driveLow (lineField w)⟩,
  ⟨0x00000003, 0xFFFFFFEF, fun w => .release (lineField w)⟩,
  ⟨0x00000004, 0xFFFFFFEF, fun w => .read (lineField w)⟩,
  ⟨0x00000005, 0x0000FFFF, fun w => .delay (nField w)⟩,
  ⟨0x00000006, 0xFFFFFFFF, fun _ => .raiseScl⟩,
  ⟨0x00000007, 0xFFFFFFFF, fun _ => .busfree⟩,
  ⟨0x00000008, 0xFFFFFFFF, fun _ => .start⟩,
  ⟨0x00000009, 0xFFFFFFFF, fun _ => .restart⟩,
  ⟨0x0000000A, 0xFFFFFFFF, fun _ => .stop⟩,
  ⟨0x0000000B, 0xFFFF00FF, fun w => .send (imm8Field w)⟩,
  ⟨0x0000000C, 0xFFFFFFDF, fun w => .senda (rwField w)⟩,
  ⟨0x0000000D, 0xFFFFFFDF, fun w => .recv (ackField w)⟩]

/-- Whether a word is the command of a row (R86). -/
def OpRow.hits (r : OpRow) (w : Word) : Bool := w &&& r.mask == r.pattern

/-- Why a word is illegal (R88). The block reports both as `IllegalCommand`. -/
inductive IllegalWord where
  /-- `op` is 0x0, 0xE or 0xF. -/
  | unassignedOp
  /-- A must-be-zero bit of the command's format is set (R87). -/
  | nonzeroUnusedBit
  deriving DecidableEq, Repr

/-- Decoding is total and unambiguous (R89): the row that the word matches, or the reason it matches
none. -/
def decode (w : Word) : Except IllegalWord Instr :=
  match opRows.find? (fun r => r.hits w) with
  | some r => .ok (r.build w)
  | none =>
    if opField w = 0x0#4 ∨ opField w = 0xE#4 ∨ opField w = 0xF#4 then .error .unassignedOp
    else .error .nonzeroUnusedBit

/-! ## Encode -/

/-- The value of `L` (R84). -/
def lineBit : Line → Word
  | .scl => 0
  | .sda => 1

/-- The value of `A` for SENDA (R85). -/
def rwBit : RwSel → Word
  | .write => 0
  | .read => 1

/-- The value of `A` for RECV (R85). -/
def ackBit : AckSel → Word
  | .nack => 0
  | .ack => 1

/-- The command word of a command, by the encodings of R90. -/
def encode : Instr → Word
  | .openSession => 0x00000001
  | .driveLow l => 0x00000002 ||| (lineBit l <<< 4)
  | .release l => 0x00000003 ||| (lineBit l <<< 4)
  | .read l => 0x00000004 ||| (lineBit l <<< 4)
  | .delay n => 0x00000005 ||| (n.setWidth 32 <<< 16)
  | .raiseScl => 0x00000006
  | .busfree => 0x00000007
  | .start => 0x00000008
  | .restart => 0x00000009
  | .stop => 0x0000000A
  | .send b => 0x0000000B ||| (b.setWidth 32 <<< 8)
  | .senda rw => 0x0000000C ||| (rwBit rw <<< 5)
  | .recv a => 0x0000000D ||| (ackBit a <<< 5)

/-! ## Assembler (30_encoding R90, R91) -/

/-- The commands a line stands for: one for a command line, the expansion of R91 for a
pseudo-instruction. Used on well-formed lines only. -/
def AsmLine.expand : AsmLine → List Instr
  | .openSession => [.openSession]
  | .driveLow l => [.driveLow l]
  | .release l => [.release l]
  | .read l => [.read l]
  | .delay n => [.delay (BitVec.ofNat 16 n)]
  | .raiseScl => [.raiseScl]
  | .busfree => [.busfree]
  | .start => [.start]
  | .restart => [.restart]
  | .stop => [.stop]
  | .send b => [.send (BitVec.ofNat 8 b)]
  | .senda rw => [.senda rw]
  | .recv a => [.recv a]
  | .sendAddr a rw => [.send (BitVec.ofNat 8 (2 * a + (rwBit rw).toNat))]
  | .releaseAll => [.release .scl, .release .sda]
  | .repStart => [.release .sda, .raiseScl, .restart]

/-- The command words of a line, or a refusal of an operand outside its range (R90). -/
def assemble (l : AsmLine) : Option (List Word) :=
  if l.wellFormed then some (l.expand.map encode) else none

/-! ## The host's numbering of an instruction's bits -/

/-- The instruction read from a command whose bits are `w`, bit 0 the least significant of its one
32-bit word (R80: "it is always one word"). Bits above `nbits` are 0. -/
def decodeTableWord (nbits w : Nat) : Option Instr :=
  match decode (BitVec.ofNat 32 (w % 2 ^ nbits)) with
  | .ok i => some i
  | .error _ => none

end Sys2Proof
end

