-- ==== Sys2Proof/Machine/State.lean ====
section
/-!
DEFINITION. The state of the block, all of it and nothing hidden (10_state R20, R43), the inputs its
agents will still give (plain lists), the two observation logs, the named reasons a step can stop, and
the state right after reset (10_state R46).
-/

namespace Sys2Proof.Machine

/-- The outcomes `STATUS.ERR` can hold (60_exceptions R180). Codes 8 to 15 are never produced, so
they have no name. `Flags.lean` gives the numbers. -/
inductive ErrCode where
  | ok
  | subsystemInitFailed
  | busNotFree
  | clockHeld
  | notOpen
  | alreadyOpen
  | badConfig
  | illegalCommand
  deriving DecidableEq, Repr, Inhabited

/-- The micro-sequencer position `useq` (10_state R43). -/
inductive USeq where
  /-- No command is executing. -/
  | idle
  /-- A command has been accepted and its first controller step has not run: the checks of
  60_exceptions R181 come first (20_memory R56, "first step of cur"). -/
  | first
  /-- The next micro-operation is entry `n` of the command's micro-operation list. -/
  | pos (n : Nat)
  /-- The abort release (60_exceptions R184) has released SCL; the next micro-operation is its
  `RL(SDA)`, after which the command ends with `e`. -/
  | abort (e : ErrCode)
  deriving DecidableEq, Repr, Inhabited

/-- One event of the line trace (00_scope R17). -/
inductive Event where
  | dl (l : Line)
  | rl (l : Line)
  | sample (l : Line) (v : Level)
  | sample2 (c d : Level)
  | wait (n : Nat)
  | init (ok : Bool)
  | reset
  deriving DecidableEq, Repr

/-- One access by the host, at a host byte address (20_memory R50, R52). `bytes` is its width. -/
inductive HostAccess where
  /-- `MemRead(addr, bytes)` -/
  | read (addr bytes : Nat)
  /-- `MemWrite(addr, bytes, v)` -/
  | write (addr bytes : Nat) (v : Word)
  deriving DecidableEq, Repr

/-- What can happen next to the block (20_memory R62, 70_reset_and_hazards R200). -/
inductive Turn where
  /-- The controller takes its next step, if a command is executing. -/
  | controller
  /-- The host performs one access. -/
  | access (a : HostAccess)
  /-- The reset input `rst` takes this level: `true` asserts it, `false` releases it. -/
  | rst (level : Bool)
  deriving DecidableEq, Repr

/-- The whole state. Fields down to `rst` are the spec's (10_state R20, R43, R46); `CMD` has no
storage (R27) and `SCL_DRV`, `SDA_DRV` and the pads' outputs are views (R36, R23). The rest are the
model's own: inputs still to come, and observations. -/
structure State where
  /-- `drv[SCL]` (R22). -/
  drvScl : Drive
  /-- `drv[SDA]` (R22). -/
  drvSda : Drive
  /-- `STATUS.BUSY` (R29). -/
  busy : Bool
  /-- `STATUS.OPENED` (R30). -/
  opened : Bool
  /-- `STATUS.ACK` (R31): Low is ACK (0), High is NACK (1). -/
  ack : Level
  /-- `STATUS.LEVEL` (R32). -/
  level : Level
  /-- `STATUS.ERR` (R34). -/
  err : ErrCode
  /-- `STATUS.CMD_LOST` (R35). -/
  cmdLost : Bool
  /-- `RXDATA[7:0]` (R38); bits 31:8 read as 0. -/
  rxdata : Byte
  /-- `BIT_DELAY` (R39). -/
  bitDelay : Word
  /-- `STRETCH_TIMEOUT` (R40), below called `T`. -/
  stretchTimeout : Word
  /-- `SLAVE_ADDR[6:0]` (R41); bits 31:7 read as 0. -/
  slaveAddr : BitVec 7
  /-- `cur` (R43): the accepted command word. -/
  cur : Word
  /-- `useq` (R43). -/
  useq : USeq
  /-- `sr` (R43): shift register of the byte transfer engine. -/
  sr : Byte
  /-- `k` (R43): bit counter inside a byte, 0 to 8. -/
  k : BitVec 4
  /-- `p` (R43): poll counter, 0 to `T`. -/
  p : Word
  /-- `init_req` (R23, R46): raised only inside an INIT step (40_open R101). -/
  initReq : Bool
  /-- The level of the reset input `rst` (10_state R23, 70_reset_and_hazards R200): `true` while it is
  asserted. It stays until a turn changes it (log 14). -/
  rst : Bool
  /-- MODEL'S OWN (log 7): the local `a` of SEND_BYTE (45_byte_transfer R161), held from the
  acknowledgement sample to completion. -/
  ackLatch : Level
  /-- MODEL'S OWN, an input (log 3): levels the environment presents at the coming samples of SCL
  while it is released. -/
  sclIn : List Level
  /-- MODEL'S OWN, an input (log 3): the same for SDA. -/
  sdaIn : List Level
  /-- MODEL'S OWN, an input (log 4): answers to the coming INIT requests. -/
  initIn : List Bool
  /-- MODEL'S OWN (logs 3, 4): number of the next free draw, taken when the input list is empty. -/
  draws : Nat
  /-- MODEL'S OWN, an input (log 5): the turns still to come; when it is empty the controller moves. -/
  sched : List Turn
  /-- OBSERVATION (00_scope R17, log 8): the line trace, newest event first. No rule reads it. -/
  trace : List Event
  /-- OBSERVATION (log 8): the data the host's reads returned, newest first. No rule reads it. -/
  reads : List Word
  deriving DecidableEq, Repr

/-- Why the machine stops. The spec's own errors are no faults: they are values of `STATUS.ERR`
(60_exceptions R186). -/
inductive Fault where
  /-- Raised by a meaning that is asked for a controller step when `useq` is Idle or names no entry
  of the command's micro-operation list. The spec gives the controller no step there (70 R214), and no
  state that keeps `State.Inv` gets there. SAFE: the model stops (log 12). -/
  | noMicroPosition
  deriving DecidableEq, Repr

/-- Why a step is refused. -/
inductive Refusal where
  /-- A command with no meaning in the model. No arm of `exec` uses it. SAFE. -/
  | notModelled (mnemonic : String)
  /-- Raised by a host access that is not 32 bits wide or not word-aligned: "a model must not give it
  one [a meaning]" (20_memory R52, parameter `HOST_NARROW_ACCESS`). SAFE (log 11). -/
  | hostNarrowAccess
  /-- Raised by an aligned 32-bit host access outside the 32 bytes of the window: no access of this
  block (20_memory R50, R52). SAFE (log 10). -/
  | hostOutsideWindow
  deriving DecidableEq, Repr

/-- The machine right after reset, `rst` released again: every row of 10_state R46. The model's own fields are named in
logs 7, 8 and 20. -/
def State.reset : State where
  drvScl := .released
  drvSda := .released
  busy := false
  opened := false
  ack := .high
  level := .low
  err := .ok
  cmdLost := false
  rxdata := 0
  bitDelay := 0
  stretchTimeout := 0
  slaveAddr := 0
  cur := 0
  useq := .idle
  sr := 0
  k := 0
  p := 0
  initReq := false
  rst := false
  ackLatch := .low
  sclIn := []
  sdaIn := []
  initIn := []
  draws := 0
  sched := []
  trace := [.reset]
  reads := []

end Sys2Proof.Machine
end

