-- ==== Sys2Proof/Machine/Operands.lean ====
section
/-!
DEFINITION. Operand forms: the value of a level, the wire byte of an address, the bits of a byte as
they go out and come in (most-significant first, 20_memory R55), and the named delay lengths.
-/

namespace Sys2Proof.Machine

/-- The bit a level stands for: High is 1, Low is 0 (00_scope R9, 92 D32). -/
def levelBit : Level → Bool
  | .low => false
  | .high => true

/-- The value of the read/write selector in bit 0 of the address byte (30_encoding R85). -/
def rwSelBit : RwSel → BitVec 1
  | .write => 0#1
  | .read => 1#1

/-- The address byte `{SLAVE_ADDR[6:0], rw}` (45_byte_transfer R163): the address in bits 7:1, the
selector in bit 0. -/
def addressByte (a : BitVec 7) (rw : RwSel) : Byte := a ++ rwSelBit rw

/-- Bit `7 - k` of a byte: the bit that goes out when `k` bits are done (45_byte_transfer R161). -/
def txBit (b : Byte) (k : BitVec 4) : Bool := b.getLsbD (7 - k.toNat)

/-- `sr <- (sr << 1)[7:0] | v` (45_byte_transfer R165): the first bit in ends as bit 7. -/
def shiftIn (sr : Byte) (v : Level) : Byte := (sr <<< 1) ||| (BitVec.ofBool (levelBit v)).setWidth 8

/-- The lengths a WAIT can have: the raw operand of DELAY (42_timing R120), or one of the three named
delays (R121). -/
inductive DelayLen where
  | units (n : BitVec 16)
  | step
  | half
  | full
  deriving DecidableEq, Repr

/-- The delay in units, where `bd` is `BIT_DELAY` (42_timing R121). DELAY's operand is not scaled
(30_encoding R83). -/
def delayUnits (d : DelayLen) (bd : Word) : Nat :=
  match d with
  | .units n => n.toNat
  | .step => Config.dlyStep bd
  | .half => Config.dlyHalf bd
  | .full => Config.dlyFull bd

end Sys2Proof.Machine
end

