-- ==== Sys2Proof/Machine/Flags.lean ====
section
/-!
DEFINITION. The status bits: the number of each outcome (60_exceptions R180) and the word a read of
STATUS returns (10_state R28, R36, R37). The block has no arithmetic flags (R45).
-/

namespace Sys2Proof.Machine

/-- The code of an outcome in `STATUS.ERR` (60_exceptions R180). -/
def errNumber : ErrCode → BitVec 4
  | .ok => 0
  | .subsystemInitFailed => 1
  | .busNotFree => 2
  | .clockHeld => 3
  | .notOpen => 4
  | .alreadyOpen => 5
  | .badConfig => 6
  | .illegalCommand => 7

/-- Whether an error is followed by the abort release: BusNotFree and ClockHeld, and no other
(60_exceptions R183, R184). -/
def ErrCode.aborts : ErrCode → Bool
  | .busNotFree | .clockHeld => true
  | .ok | .subsystemInitFailed | .notOpen | .alreadyOpen | .badConfig | .illegalCommand => false

/-- The drive state as a status bit or an output enable: 1 when Driving-Low (10_state R23, R36). -/
def driveBit : Drive → Bool
  | .drivingLow => true
  | .released => false

/-- The word a read of STATUS returns (10_state R28): reserved 31:11, SDA_DRV, SCL_DRV, CMD_LOST, ERR,
LEVEL, ACK, OPENED, BUSY, the most significant first. -/
def statusWord (s : State) : Word :=
  0#21 ++ BitVec.ofBool (driveBit s.drvSda) ++ BitVec.ofBool (driveBit s.drvScl)
    ++ BitVec.ofBool s.cmdLost ++ errNumber s.err ++ BitVec.ofBool (levelBit s.level)
    ++ BitVec.ofBool (levelBit s.ack) ++ BitVec.ofBool s.opened ++ BitVec.ofBool s.busy

end Sys2Proof.Machine
end

