-- ==== Sys2Proof/Machine/Ops.lean ====
section
/-!
DEFINITION. The named operations: the two drive states and the pads, the micro-operations of
00_scope R11 to R16 with their trace events, completion and `raise` with the abort release
(60_exceptions R183, R184: the block's one way of "taking an exception"), reset, and the micro-sequencer
that every command runs on.

ONE CONTROLLER STEP (log 1) runs a command's pseudocode up to and with its next micro-operation. What
the pseudocode does silently before or after it (the acceptance checks, a test of the poll budget, a
register written at the end, completion) happens in that same step.
-/

namespace Sys2Proof.Machine

/-- The result type of a meaning and of a step. -/
abbrev Result := Host.Outcome State Fault Refusal

/-! ## Lines and pads -/

/-- `drv[l]` (10_state R22). -/
def State.drv (s : State) : Line → Drive
  | .scl => s.drvScl
  | .sda => s.drvSda

/-- `drv[l] <- d` (10_state R22). -/
def State.setDrv (s : State) (l : Line) (d : Drive) : State :=
  match l with
  | .scl => { s with drvScl := d }
  | .sda => { s with drvSda := d }

/-- The pad's output enable `l_oe` (10_state R23): 1 when the line is driven low. -/
def padOe (s : State) (l : Line) : Bool := driveBit (s.drv l)

/-- The pad's output value `l_o` (10_state R26): tied to Low, so no line is ever driven High. -/
def padOut (_ : State) (_ : Line) : Level := .low

/-- The levels the environment will present at the coming samples of a released line (log 3). -/
def State.lineIn (s : State) : Line → List Level
  | .scl => s.sclIn
  | .sda => s.sdaIn

/-- The same list after some of it has been presented. -/
def State.setLineIn (s : State) (l : Line) (vs : List Level) : State :=
  match l with
  | .scl => { s with sclIn := vs }
  | .sda => { s with sdaIn := vs }

/-! ## Micro-operations (00_scope R11 to R17, 40_open R101) -/

/-- Appends an event to the line trace (R17). -/
def record (e : Event) (s : State) : State := { s with trace := e :: s.trace }

/-- `DL(l)` (R11). -/
def driveLow (l : Line) (s : State) : State := record (.dl l) (s.setDrv l .drivingLow)

/-- `RL(l)` (R12). -/
def release (l : Line) (s : State) : State := record (.rl l) (s.setDrv l .released)

/-- `WAIT(n)` (R15): it changes no state, and its length is recorded. -/
def wait (n : Nat) (s : State) : State := record (.wait n) s

/-- `Env.level(l)` (R16): a draw. The next level of the input list; when the list has run out, a free
value (log 3). -/
def drawLevel (l : Line) (s : State) : Level × State :=
  match s.lineIn l with
  | v :: vs => (v, s.setLineIn l vs)
  | [] => (Config.envLevel l s.draws, { s with draws := s.draws + 1 })

/-- `LineLevel(l)` (R16), the wired-AND: a line the block drives reads Low and takes no draw. -/
def lineLevel (l : Line) (s : State) : Level × State :=
  match s.drv l with
  | .drivingLow => (.low, s)
  | .released => drawLevel l s

/-- `SAMPLE(l)` (R13). -/
def sample (l : Line) (s : State) : Level × State :=
  let r := lineLevel l s
  (r.1, record (.sample l r.1) r.2)

/-- `SAMPLE2()` (R14): both lines at the same step; the result is (SCL, SDA). -/
def sample2 (s : State) : (Level × Level) × State :=
  let c := lineLevel .scl s
  let d := lineLevel .sda c.2
  ((c.1, d.1), record (.sample2 c.1 d.1) d.2)

/-- The answer of the GPIO subsystem (40_open R101): a draw (log 4). -/
def drawInit (s : State) : Bool × State :=
  match s.initIn with
  | b :: bs => (b, { s with initIn := bs })
  | [] => (Config.initOk s.draws, { s with draws := s.draws + 1 })

/-- `INIT()` (40_open R101): `init_req` is raised for the duration of the step, and the answer is
taken and recorded. It changes no line. -/
def initRequest (s : State) : Bool × State :=
  let r := drawInit { s with initReq := true }
  (r.1, record (.init r.1) { r.2 with initReq := false })

/-! ## Completion, `raise` and the abort release (60_exceptions R183, R184) -/

/-- The end of a command with outcome `e`: `ERR`, `BUSY` and `useq` are written. -/
def endCommand (e : ErrCode) (s : State) : State :=
  { s with err := e, busy := false, useq := .idle }

/-- `complete` (40_open; 60_exceptions R183). -/
def complete (s : State) : State := endCommand .ok s

/-- `raise e` (60_exceptions R183). For BusNotFree and ClockHeld the abort release comes first: its
`RL(SCL)` is this step's micro-operation and its `RL(SDA)` the next step's (R184, log 2). -/
def raiseError (e : ErrCode) (s : State) : State :=
  if e.aborts then { release .scl s with useq := .abort e } else endCommand e s

/-- The second half of the abort release, and the end of the command (60_exceptions R183, R184). -/
def finishAbort (e : ErrCode) (s : State) : State := endCommand e (release .sda s)

/-! ## Reset (70_reset_and_hazards R200 to R202) -/

/-- Every piece of the block's state at its value from 10_state R46, both lines released at once. What
belongs to the other agents stays: the level of `rst`, the inputs still to come and the observations
(log 14; "Reset clears no trace", 00_scope R17). -/
def holdReset (s : State) : State :=
  { State.reset with
    rst := s.rst, sclIn := s.sclIn, sdaIn := s.sdaIn, initIn := s.initIn, draws := s.draws
    sched := s.sched, trace := s.trace, reads := s.reads }

/-- `rst` is asserted (R200): the state of R46 and one `RESET` event, in one step. Where it is asserted
already, nothing changes. -/
def assertReset (s : State) : State :=
  if s.rst then s else record .reset { holdReset s with rst := true }

/-- `rst` is released: the block stays in the state of R46 and may run again (R202). -/
def releaseReset (s : State) : State := { s with rst := false }

/-! ## The micro-sequencer -/

/-- One entry of a command's micro-operation list (10_state R33, R43). -/
inductive Micro where
  /-- `ok <- INIT()`, and SubsystemInitFailed when it fails (40_open R100) -/
  | init
  /-- `DL(l)` -/
  | dl (l : Line)
  /-- `RL(l)` -/
  | rl (l : Line)
  /-- `WAIT(d)` -/
  | wait (d : DelayLen)
  /-- `v <- SAMPLE(l); STATUS.LEVEL <- v` (41_line_driver R112) -/
  | readLevel (l : Line)
  /-- `RL(SCL); p <- 0`, the head of GATE (43_stretch_gate R130) -/
  | gateRelease
  /-- the poll loop of GATE (43_stretch_gate R130), one iteration a step -/
  | gatePoll
  /-- the poll loop of BUSFREE_CHECK (44_conditions R140), one iteration a step -/
  | busPoll
  /-- `if b[i] == 1: RL(SDA) else: DL(SDA)` (45_byte_transfer R161) -/
  | sendBit
  /-- `v <- SAMPLE(SDA); sr <- (sr << 1)[7:0] | v` (45_byte_transfer R165) -/
  | recvBit
  /-- `DL(SCL)` at the end of a data bit; the loop goes on until eight bits are done -/
  | lowerBit
  /-- `a <- SAMPLE(SDA)` (45_byte_transfer R161) -/
  | sampleAck
  deriving DecidableEq, Repr

/-- Where the sequencer goes after an entry. -/
inductive Flow where
  /-- the following entry, or completion after the last one -/
  | advance
  /-- the same entry again: a poll loop goes on -/
  | stay
  /-- entry 0 again: the bit loop goes on -/
  | again
  /-- `raise e` -/
  | fail (e : ErrCode)
  deriving DecidableEq, Repr

/-- One poll iteration of the gate (43_stretch_gate R130): at `p == T` it raises ClockHeld and takes no
sample. -/
def gatePoll (s : State) : Flow × State :=
  if s.p = s.stretchTimeout then (.fail .clockHeld, s)
  else
    let r := sample .scl { s with p := s.p + 1 }
    (if r.1 = .high then .advance else .stay, r.2)

/-- One poll iteration of the bus-free check (44_conditions R140): at `p == T` it raises BusNotFree and
takes no sample. -/
def busPoll (s : State) : Flow × State :=
  if s.p = s.stretchTimeout then (.fail .busNotFree, s)
  else
    let r := sample2 { s with p := s.p + 1 }
    (if r.1.1 = .high ∧ r.1.2 = .high then .advance else .stay, r.2)

/-- The INIT entry of OPEN (40_open R100). -/
def initStep (s : State) : Flow × State :=
  let r := initRequest s
  (if r.1 then .advance else .fail .subsystemInitFailed, r.2)

/-- The data-bit entry of SEND_BYTE (45_byte_transfer R161): release SDA for 1, drive low for 0. -/
def sendBit (s : State) : State := if txBit s.sr s.k then release .sda s else driveLow .sda s

/-- The data-sample entry of RECV (45_byte_transfer R165). -/
def recvBit (s : State) : State :=
  let r := sample .sda s
  { r.2 with sr := shiftIn s.sr r.1 }

/-- The clock-lowering entry that ends a data bit (45_byte_transfer R161, R165): `DL(SCL)`, one more
bit done, and the loop goes on while fewer than eight are. -/
def lowerBit (s : State) : Flow × State :=
  let t := driveLow .scl { s with k := s.k + 1 }
  (if t.k = 8#4 then .advance else .again, t)

/-- The acknowledgement sample of SEND_BYTE (45_byte_transfer R161), kept in `ackLatch` (log 7). -/
def sampleAck (s : State) : State :=
  let r := sample .sda s
  { r.2 with ackLatch := r.1 }

/-- READ's sample (41_line_driver R112). -/
def readLevel (l : Line) (s : State) : State :=
  let r := sample l s
  { r.2 with level := r.1 }

/-- What one entry of a micro-operation list does. -/
def runMicro (m : Micro) (s : State) : Flow × State :=
  match m with
  | .init => initStep s
  | .dl l => (.advance, driveLow l s)
  | .rl l => (.advance, release l s)
  | .wait d => (.advance, wait (delayUnits d s.bitDelay) s)
  | .readLevel l => (.advance, readLevel l s)
  | .gateRelease => (.advance, { release .scl s with p := 0 })
  | .gatePoll => gatePoll s
  | .busPoll => busPoll s
  | .sendBit => (.advance, sendBit s)
  | .recvBit => (.advance, recvBit s)
  | .lowerBit => lowerBit s
  | .sampleAck => (.advance, sampleAck s)

/-- A command, as the sequencer runs it. -/
structure Command where
  /-- The acceptance checks after decoding (60_exceptions R181), and OPEN's BadConfig: the first
  error that applies. -/
  check : State → Option ErrCode
  /-- What the pseudocode writes before its first micro-operation. -/
  prepare : State → State
  /-- The micro-operation list. -/
  micros : List Micro
  /-- The result register written at successful completion. -/
  finish : State → State

/-- Runs entry `n` of a command's list and moves `useq` (10_state R33: "`useq` advances by one
micro-operation per controller step"). -/
def microStep (c : Command) (n : Nat) (s : State) : Result :=
  match c.micros[n]? with
  | none => .fault .noMicroPosition
  | some m =>
    match runMicro m s with
    | (.advance, t) =>
      if n + 1 < c.micros.length then .next { t with useq := .pos (n + 1) }
      else .next (complete (c.finish t))
    | (.stay, t) => .next { t with useq := .pos n }
    | (.again, t) => .next { t with useq := .pos 0 }
    | (.fail e, t) => .next (raiseError e t)

/-- One controller step of a command, at whatever position `useq` names. -/
def runCommand (c : Command) (s : State) : Result :=
  match s.useq with
  | .idle => .fault .noMicroPosition
  | .first =>
    match c.check s with
    | some e => .next (raiseError e s)
    | none => microStep c 0 (c.prepare s)
  | .pos n => microStep c n s
  | .abort e => .next (finishAbort e s)

/-- The acceptance check of every command but OPEN: NotOpen (60_exceptions R181, check 2). -/
def needsOpen (s : State) : Option ErrCode := if s.opened then none else some .notOpen

/-- A word that matches no row (30_encoding R88): its first controller step raises IllegalCommand and
executes no micro-operation. -/
def illegalCommand : Command where
  check := fun _ => some .illegalCommand
  prepare := fun s => s
  micros := []
  finish := fun s => s

/-- The controller step of an accepted illegal word (30_encoding R88, 60_exceptions R181, check 1). -/
def execIllegal (s : State) : Result := runCommand illegalCommand s

end Sys2Proof.Machine
end

