-- ==== Sys2Proof/Machine/ByteTransfer.lean ====
section
/-!
DEFINITION. Byte transfer engine: SEND, SENDA, RECV (45_byte_transfer R160 to R169). Entries 0 to 5 of
each list are one data bit, run eight times with `k` counting the bits done; the rest is the ninth
clock.
-/

namespace Sys2Proof.Machine

/-- The micro-operation list of SEND_BYTE (R161). -/
def sendMicros : List Micro :=
  [ .wait .step, .sendBit, .gateRelease, .gatePoll, .wait .step, .lowerBit,
    .rl .sda, .wait .step, .gateRelease, .gatePoll, .wait .step, .sampleAck, .dl .scl ]

/-- `sr <- b`, with no bit done yet (R161). -/
def loadByte (b : Byte) (s : State) : State := { s with sr := b, k := 0 }

/-- `STATUS.ACK <- a` at successful completion (R160; 10_state R31). -/
def storeAck (s : State) : State := { s with ack := s.ackLatch }

/-- SEND b (R160). -/
def sendCommand (b : Byte) : Command where
  check := needsOpen
  prepare := loadByte b
  micros := sendMicros
  finish := storeAck

/-- One controller step of SEND. -/
def execSend (b : Byte) (s : State) : Result := runCommand (sendCommand b) s

/-- SENDA rw (R163): SEND_BYTE of the address byte. -/
def sendaCommand (rw : RwSel) : Command where
  check := needsOpen
  prepare := fun s => loadByte (addressByte s.slaveAddr rw) s
  micros := sendMicros
  finish := storeAck

/-- One controller step of SENDA. -/
def execSenda (rw : RwSel) (s : State) : Result := runCommand (sendaCommand rw) s

/-- The acknowledgement choice of RECV (R165): drive SDA low to ACK, release it to NACK. -/
def ackChoice : AckSel → Micro
  | .ack => .dl .sda
  | .nack => .rl .sda

/-- RECV a (R165): SDA is not released before the data bits (R166), and it is never sampled in the
ninth clock. -/
def recvCommand (a : AckSel) : Command where
  check := needsOpen
  prepare := loadByte 0
  micros :=
    [ .wait .step, .gateRelease, .gatePoll, .wait .step, .recvBit, .lowerBit,
      ackChoice a, .wait .step, .gateRelease, .gatePoll, .wait .step, .dl .scl, .rl .sda ]
  finish := fun s => { s with rxdata := s.sr }

/-- One controller step of RECV. -/
def execRecv (a : AckSel) (s : State) : Result := runCommand (recvCommand a) s

end Sys2Proof.Machine
end

