-- ==== Sys2Proof/Machine/Conditions.lean ====
section
/-!
DEFINITION. Condition generator: BUSFREE, START, RESTART, STOP (44_conditions R140 to R148). The delay
placement is that of the step lists and no other (42_timing R124, 90_conflicts C4).
-/

namespace Sys2Proof.Machine

/-- `p <- 0`, the head of the bus-free check (R140). -/
def clearPoll (s : State) : State := { s with p := 0 }

/-- BUSFREE (R141): the bus-free check alone. -/
def busfreeCommand : Command where
  check := needsOpen
  prepare := clearPoll
  micros := [.busPoll]
  finish := fun s => s

/-- One controller step of BUSFREE. -/
def execBusfree (s : State) : Result := runCommand busfreeCommand s

/-- START (R142). -/
def startCommand : Command where
  check := needsOpen
  prepare := clearPoll
  micros := [.busPoll, .dl .sda, .wait .half, .dl .scl]
  finish := fun s => s

/-- One controller step of START. -/
def execStart (s : State) : Result := runCommand startCommand s

/-- RESTART (R143, 90_conflicts C1): the bus-free check, then the source's step list. -/
def restartCommand : Command where
  check := needsOpen
  prepare := clearPoll
  micros := [.busPoll, .dl .sda, .wait .full, .dl .scl, .rl .sda, .wait .full]
  finish := fun s => s

/-- One controller step of RESTART. -/
def execRestart (s : State) : Result := runCommand restartCommand s

/-- STOP (R144): no bus-free check; one gate. -/
def stopCommand : Command where
  check := needsOpen
  prepare := fun s => s
  micros := [.dl .sda, .wait .step, .gateRelease, .gatePoll, .wait .step, .rl .sda]
  finish := fun s => s

/-- One controller step of STOP. -/
def execStop (s : State) : Result := runCommand stopCommand s

end Sys2Proof.Machine
end

