-- ==== Sys2Proof/Machine/Gate.lean ====
section
/-!
DEFINITION. Clock-stretch gate: RAISE_SCL (43_stretch_gate R130 to R135). The gate's two entries,
`gateRelease` and `gatePoll`, stand in Ops.lean and are shared with STOP, SEND, SENDA and RECV.
-/

namespace Sys2Proof.Machine

/-- RAISE_SCL (R131): the gate alone. -/
def raiseSclCommand : Command where
  check := needsOpen
  prepare := fun s => s
  micros := [.gateRelease, .gatePoll]
  finish := fun s => s

/-- One controller step of RAISE_SCL. -/
def execRaiseScl (s : State) : Result := runCommand raiseSclCommand s

end Sys2Proof.Machine
end

