-- ==== Sys2Proof/Machine/LineDriver.lean ====
section
/-!
DEFINITION. Line driver: DRIVE_LOW, RELEASE, READ (41_line_driver R110 to R114).
-/

namespace Sys2Proof.Machine

/-- DRIVE_LOW l (R110). -/
def driveLowCommand (l : Line) : Command where
  check := needsOpen
  prepare := fun s => s
  micros := [.dl l]
  finish := fun s => s

/-- One controller step of DRIVE_LOW. -/
def execDriveLow (l : Line) (s : State) : Result := runCommand (driveLowCommand l) s

/-- RELEASE l (R111): no gate, no sample. -/
def releaseCommand (l : Line) : Command where
  check := needsOpen
  prepare := fun s => s
  micros := [.rl l]
  finish := fun s => s

/-- One controller step of RELEASE. -/
def execRelease (l : Line) (s : State) : Result := runCommand (releaseCommand l) s

/-- READ l (R112): legal in either drive state. -/
def readCommand (l : Line) : Command where
  check := needsOpen
  prepare := fun s => s
  micros := [.readLevel l]
  finish := fun s => s

/-- One controller step of READ. -/
def execRead (l : Line) (s : State) : Result := runCommand (readCommand l) s

end Sys2Proof.Machine
end

