-- ==== Sys2Proof/Machine/Open.lean ====
section
/-!
DEFINITION. Session open: OPEN (40_open R100 to R103).
-/

namespace Sys2Proof.Machine

/-- OPEN's checks in their order: AlreadyOpen (60_exceptions R181), then BadConfig (40_open R100). -/
def openCheck (s : State) : Option ErrCode :=
  if s.opened then some .alreadyOpen
  else if s.bitDelay = 0#32 ∨ s.stretchTimeout = 0#32 then some .badConfig
  else none

/-- OPEN (40_open R100): INIT, then both lines released, then `OPENED <- 1`. -/
def openCommand : Command where
  check := openCheck
  prepare := fun s => s
  micros := [.init, .rl .scl, .rl .sda]
  finish := fun s => { s with opened := true }

/-- One controller step of OPEN. -/
def execOpen (s : State) : Result := runCommand openCommand s

end Sys2Proof.Machine
end

