-- ==== Sys2Proof/Machine/Timing.lean ====
section
/-!
DEFINITION. Timing primitive: DELAY (42_timing R120).
-/

namespace Sys2Proof.Machine

/-- DELAY n (R120): `n` raw units, not scaled by BIT_DELAY. -/
def delayCommand (n : BitVec 16) : Command where
  check := needsOpen
  prepare := fun s => s
  micros := [.wait (.units n)]
  finish := fun s => s

/-- One controller step of DELAY. -/
def execDelay (n : BitVec 16) (s : State) : Result := runCommand (delayCommand n) s

end Sys2Proof.Machine
end

