-- ==== Sys2Proof/Machine/Dispatch.lean ====
section
/-!
DEFINITION. One arm per command: the controller step of an executing command, at the position `useq`
names (10_state R33).
-/

namespace Sys2Proof.Machine

def exec (i : Instr) (s : State) : Host.Outcome State Fault Refusal :=
  match i with
  | .openSession => Sys2Proof.Machine.execOpen s
  | .driveLow l => Sys2Proof.Machine.execDriveLow l s
  | .release l => Sys2Proof.Machine.execRelease l s
  | .read l => Sys2Proof.Machine.execRead l s
  | .delay n => Sys2Proof.Machine.execDelay n s
  | .raiseScl => Sys2Proof.Machine.execRaiseScl s
  | .busfree => Sys2Proof.Machine.execBusfree s
  | .start => Sys2Proof.Machine.execStart s
  | .restart => Sys2Proof.Machine.execRestart s
  | .stop => Sys2Proof.Machine.execStop s
  | .send b => Sys2Proof.Machine.execSend b s
  | .senda rw => Sys2Proof.Machine.execSenda rw s
  | .recv a => Sys2Proof.Machine.execRecv a s

end Sys2Proof.Machine
end

