-- ==== Sys2Proof/Machine/Window.lean ====
section
/-!
DEFINITION. The register window (20_memory R50 to R59): which register an offset names, what a read
returns, what a write does, command acceptance, and which accesses are refused.
-/

namespace Sys2Proof.Machine

/-- The registers of the window (20_memory R51). -/
inductive WinReg where
  | cmd
  | status
  | rxdata
  | bitDelay
  | stretchTimeout
  | slaveAddr
  | reserved
  deriving DecidableEq, Repr

/-- The register at a word-aligned offset of the window (20_memory R51); none outside it. -/
def regAt : Nat → Option WinReg
  | 0x00 => some .cmd
  | 0x04 => some .status
  | 0x08 => some .rxdata
  | 0x0C => some .bitDelay
  | 0x10 => some .stretchTimeout
  | 0x14 => some .slaveAddr
  | 0x18 => some .reserved
  | 0x1C => some .reserved
  | _ => none

/-- What a read returns (20_memory R58, R53; 10_state R27): no side effect. -/
def readReg (r : WinReg) (s : State) : Word :=
  match r with
  | .cmd => 0
  | .status => statusWord s
  | .rxdata => s.rxdata.setWidth 32
  | .bitDelay => s.bitDelay
  | .stretchTimeout => s.stretchTimeout
  | .slaveAddr => s.slaveAddr.setWidth 32
  | .reserved => 0

/-- Byte `b` of the window as a host that numbers bytes sees it: little-endian (20_memory R54). A view
only: no access narrower than a word is admitted (R52). -/
def windowByte (s : State) (b : Nat) : Option Byte :=
  (regAt (4 * (b / 4))).map fun r => (readReg r s).extractLsb' (8 * (b % 4)) 8

/-- Acceptance of a command (20_memory R56): atomic with the write; nothing is checked yet. -/
def acceptCommand (v : Word) (s : State) : State :=
  { s with cur := v, err := .ok, busy := true, useq := .first }

/-- A write to CMD: accepted while `BUSY = 0` (20_memory R56), else dropped and recorded in CMD_LOST
(R57). -/
def writeCmd (v : Word) (s : State) : State :=
  if s.busy then { s with cmdLost := true } else acceptCommand v s

/-- A write to STATUS: bit 8 = 1 clears CMD_LOST, and nothing else happens (10_state R28, R35). -/
def writeStatus (v : Word) (s : State) : State :=
  if v.getLsbD 8 then { s with cmdLost := false } else s

/-- Whether a configuration write takes effect (10_state R42). -/
def configWritable (s : State) : Bool := !s.opened && !s.busy

/-- What a write does (20_memory R56, R57, R59, R53; 10_state R41, R42). -/
def writeReg (r : WinReg) (v : Word) (s : State) : State :=
  match r with
  | .cmd => writeCmd v s
  | .status => writeStatus v s
  | .rxdata => s
  | .bitDelay => if configWritable s then { s with bitDelay := v } else s
  | .stretchTimeout => if configWritable s then { s with stretchTimeout := v } else s
  | .slaveAddr => if configWritable s then { s with slaveAddr := v.setWidth 7 } else s
  | .reserved => s

/-- A host write as it reaches the block: while `rst` is asserted every piece of state keeps its value
from 10_state R46 (70_reset_and_hazards R200), so the write is lost (log 14). -/
def hostWrite (r : WinReg) (v : Word) (s : State) : State :=
  if s.rst then s else writeReg r v s

/-- The register that an aligned 32-bit access at a host address reaches: `BASE + offset`
(20_memory R51), or none. -/
def regAtAddr (addr : Nat) : Option WinReg :=
  if Config.base ≤ addr then regAt (addr - Config.base) else none

/-- Whether an access is one the model admits by its form: 32 bits wide and word-aligned
(20_memory R52). -/
def fullWord (addr bytes : Nat) : Bool := bytes == 4 && addr % 4 == 0

/-- One host access (20_memory R52, R58, R59). A read's data goes to the host, whose view is the
observation `reads` (log 8). -/
def hostAccess (a : HostAccess) (s : State) : Result :=
  match a with
  | .read addr bytes =>
    if fullWord addr bytes then
      match regAtAddr addr with
      | some r => .next { s with reads := readReg r s :: s.reads }
      | none => .refused .hostOutsideWindow
    else .refused .hostNarrowAccess
  | .write addr bytes v =>
    if fullWord addr bytes then
      match regAtAddr addr with
      | some r => .next (hostWrite r v s)
      | none => .refused .hostOutsideWindow
    else .refused .hostNarrowAccess

end Sys2Proof.Machine
end

