-- ==== Sys2Proof/Machine/Controller.lean ====
section
/-!
DEFINITION. Whose turn it is, and what the agent whose turn it is does (00_scope R6, 20_memory R62).
-/

namespace Sys2Proof.Machine

/-- The controller's turn: while `BUSY = 1` it takes one step of the command in `cur` (20_memory R66);
a word that decodes to no command is illegal (30_encoding R88). While `BUSY = 0` it waits for a CMD
write and changes nothing (70_reset_and_hazards R202, R214), and while `rst` is asserted it takes no
step (R200). -/
def controllerTurn (s : State) : Result :=
  if s.rst then .next s
  else if s.busy then
    match decode s.cur with
    | .ok i => exec i s
    | .error _ => execIllegal s
  else .next s

/-- What a turn does, in a state whose list of turns has already moved on. -/
def takeTurn (t : Turn) (s : State) : Result :=
  match t with
  | .controller => controllerTurn s
  | .access a => hostAccess a s
  | .rst true => .next (assertReset s)
  | .rst false => .next (releaseReset s)

/-- The next turn of the interleaving (20_memory R62): the head of the list, or the controller's when
the list is empty (its weak fairness; log 5). -/
def nextTurn (s : State) : Result :=
  match s.sched with
  | [] => controllerTurn s
  | t :: ts => takeTurn t { s with sched := ts }

/-- A state in which the command word `v` has just been accepted (20_memory R56) and the controller
moves next, which needs `rst` released (log 6). -/
def placeCommand (v : Word) (s : State) : State :=
  let t := { acceptCommand v s with rst := false }
  match s.sched with
  | [] => t
  | _ :: _ => { t with sched := .controller :: s.sched }

end Sys2Proof.Machine
end

