-- ==== Sys2Proof/Machine/Step.lean ====
section
/-!
DEFINITION. One step of the whole machine, and the placing of a command where the next step runs it.
-/

namespace Sys2Proof.Machine

/-- One step: one host access, one controller step, or one change of `rst` (20_memory R61, R62). -/
def step (s : State) : Host.Outcome State Fault Refusal := nextTurn s

/-- The command whose bits are `w` placed as the accepted command: what the host's CMD write does
(20_memory R56, log 6). Bits above `nbits` are 0. -/
def State.withFetchWord (s : State) (nbits w : Nat) : State :=
  placeCommand (BitVec.ofNat 32 (w % 2 ^ nbits)) s

end Sys2Proof.Machine
end

