-- ==== Sys2Proof/Safety.lean ====
section
/-!
DEFINITION. The terms claims are stated in: the command an instruction runs, runs of several controller
steps, the invariant of the machine, what each command may write, the step bounds (70_reset_and_hazards
R212), the event lists of the byte commands, and the end of a run (R214).
-/

namespace Sys2Proof.Machine

/-- The command that a decoded instruction runs. -/
def commandOf : Instr → Command
  | .openSession => openCommand
  | .driveLow l => driveLowCommand l
  | .release l => releaseCommand l
  | .read l => readCommand l
  | .delay n => delayCommand n
  | .raiseScl => raiseSclCommand
  | .busfree => busfreeCommand
  | .start => startCommand
  | .restart => restartCommand
  | .stop => stopCommand
  | .send b => sendCommand b
  | .senda rw => sendaCommand rw
  | .recv a => recvCommand a

/-- `n` controller steps of one command, stopping at the first fault or refusal. -/
def execFor (i : Instr) : Nat → State → Result
  | 0, s => .next s
  | n + 1, s =>
    match exec i s with
    | .next t => execFor i n t
    | .fault f => .fault f
    | .refused r => .refused r

/-- The command `i` stands accepted in an open session and its first controller step is next: the
state in which its own pseudocode runs from the start (60_exceptions R181). -/
abbrev State.ready (s : State) : Prop := s.useq = .first ∧ s.opened = true

/-- The end of a run of the block (70_reset_and_hazards R214): `BUSY = 0` and no host access pending. -/
abbrev State.atRest (s : State) : Prop := s.busy = false ∧ s.sched = []

/-! ## What a command may raise and write -/

/-- The one error a command can raise from a poll loop (60_exceptions R180, R182). -/
def pollError : Instr → Option ErrCode
  | .busfree | .start | .restart => some .busNotFree
  | .raiseScl | .stop | .send _ | .senda _ | .recv _ => some .clockHeld
  | .openSession | .driveLow _ | .release _ | .read _ | .delay _ => none

/-- Whether a command runs the byte transfer engine. -/
def isByteCommand : Instr → Bool
  | .send _ | .senda _ | .recv _ => true
  | .openSession | .driveLow _ | .release _ | .read _ | .delay _ | .raiseScl | .busfree | .start
  | .restart | .stop => false

/-- Whether a command writes `STATUS.ACK` (10_state R31, R49). -/
def writesAck : Instr → Bool
  | .send _ | .senda _ => true
  | .openSession | .driveLow _ | .release _ | .read _ | .delay _ | .raiseScl | .busfree | .start
  | .restart | .stop | .recv _ => false

/-- The byte a sending command puts on the wire (45_byte_transfer R160, R163). -/
def sentByte (s : State) : Instr → Option Byte
  | .send b => some b
  | .senda rw => some (addressByte s.slaveAddr rw)
  | .openSession | .driveLow _ | .release _ | .read _ | .delay _ | .raiseScl | .busfree | .start
  | .restart | .stop | .recv _ => none

/-- The events of a bus-free check that sees these pairs (44_conditions R140), in the pairs' order. -/
def busEvents (ps : List (Level × Level)) : List Event := ps.map fun q => .sample2 q.1 q.2

/-! ## The invariant -/

/-- What every state of a run satisfies, between two steps. -/
structure State.Inv (s : State) : Prop where
  /-- "`BUSY = 1` exactly when `useq ≠ Idle`" (10_state R43). -/
  busy_iff : s.busy = true ↔ s.useq ≠ .idle
  /-- "While `rst` is asserted, every piece of state takes its value from" R46 (70_reset_and_hazards
  R200). -/
  reset_held : s.rst = true → holdReset s = s
  /-- `ERR` reads 0 while a command is executing (10_state R28, R34). -/
  err_clear : s.busy = true → s.err = .ok
  /-- While `OPENED = 1` the configuration is non-zero (10_state R48). -/
  configured : s.opened = true → s.bitDelay ≠ 0#32 ∧ s.stretchTimeout ≠ 0#32
  /-- "No line moves before a successful OPEN" (40_open R102): both stay as reset left them. -/
  released_unopened : s.opened = false → s.drvScl = .released ∧ s.drvSda = .released
  /-- `init_req` is raised only inside an INIT step (40_open R101). -/
  init_low : s.initReq = false
  /-- `p` is 0 to `T` (10_state R43). -/
  poll_le : s.p ≤ s.stretchTimeout
  /-- No poll has run before the session is open (40_open R102). -/
  poll_unopened : s.opened = false → s.p = 0
  /-- `k` is 0 to 8 (10_state R43). -/
  bit_le : s.k ≤ 8#4
  /-- A position inside a list is one of the list of `cur`'s command, which passed its checks. -/
  position : ∀ n, s.useq = .pos n → ∃ i, decode s.cur = .ok i ∧ n < (commandOf i).micros.length ∧
    (i = .openSession → s.opened = false ∧ s.bitDelay ≠ 0#32 ∧ s.stretchTimeout ≠ 0#32) ∧
    (i ≠ .openSession → s.opened = true)
  /-- In a byte command the bit loop (entries 0 to 5) has bits left, and the ninth clock has none. -/
  bit_loop : ∀ n i, s.useq = .pos n → decode s.cur = .ok i → isByteCommand i = true →
    (n ≤ 5 → s.k < 8#4) ∧ (6 ≤ n → s.k = 8#4)
  /-- An abort release runs only for the command's own poll error (60_exceptions R184). -/
  aborting : ∀ e, s.useq = .abort e → s.opened = true ∧
    ∃ i, decode s.cur = .ok i ∧ pollError i = some e

/-- What holds of SDA while the byte transfer engine runs (45_byte_transfer R162, R167). A position is
the entry that comes next, so entry 2 is the gate's `RL(SCL)` and entry 5 the `DL(SCL)` of a data bit;
entries 8 to 12 are the rest of the ninth clock after SDA is set and its WAIT has run. -/
structure State.SdaHeld (s : State) : Prop where
  /-- A sending command holds its byte in `sr`, and from the gate to the `DL(SCL)` of a data bit SDA is
  released exactly when the bit is 1 (R162). -/
  data : ∀ n i b, s.useq = .pos n → decode s.cur = .ok i → sentByte s i = some b →
    s.sr = b ∧ (2 ≤ n → n ≤ 5 → (s.drvSda = .released ↔ txBit b s.k = true))
  /-- In the ninth clock of a sending command SDA is released (R162). -/
  ack_slot : ∀ n i b, s.useq = .pos n → decode s.cur = .ok i → sentByte s i = some b →
    7 ≤ n → s.drvSda = .released
  /-- In the ninth clock of RECV SDA is driven low for ACK and released for NACK (R167). -/
  recv_slot : ∀ n a, s.useq = .pos n → decode s.cur = .ok (.recv a) → 7 ≤ n →
    s.drvSda = (match a with | .ack => .drivingLow | .nack => .released)

/-- Whether the newest event of a trace is a sample of both lines that did not find the bus free. -/
def endsBusy : List Event → Bool
  | .sample2 c d :: _ => !(c == .high && d == .high)
  | _ => false

/-- Every sample a poll loop has taken so far stands on top of the trace (43_stretch_gate R132,
44_conditions R140): `p` of them inside the loop, `T` of them once the loop has failed, and none of them
let the loop end. -/
structure State.PollCounts (s : State) : Prop where
  /-- Inside the gate: `RL(SCL)`, then `p` samples of SCL, all Low. -/
  gate : ∀ n i, s.useq = .pos n → decode s.cur = .ok i →
    (commandOf i).micros[n]? = some .gatePoll →
    ∃ es, s.trace = List.replicate s.p.toNat (.sample .scl .low) ++ .rl .scl :: es
  /-- A gate that raised ClockHeld took exactly `T` samples, all Low; the abort release has begun. -/
  gate_failed : s.useq = .abort .clockHeld →
    ∃ es, s.trace = .rl .scl ::
      (List.replicate s.stretchTimeout.toNat (.sample .scl .low) ++ .rl .scl :: es)
  /-- Outside the bus-free check the newest event is no sample of a busy bus. -/
  bus_quiet : (∀ n i, s.useq = .pos n → decode s.cur = .ok i →
    (commandOf i).micros[n]? ≠ some .busPoll) → endsBusy s.trace = false
  /-- Inside the bus-free check: `p` samples of both lines, none with both High, and no more of them. -/
  bus : ∀ n i, s.useq = .pos n → decode s.cur = .ok i →
    (commandOf i).micros[n]? = some .busPoll →
    ∃ ps es, ps.length = s.p.toNat ∧ (.high, .high) ∉ ps ∧ endsBusy es = false ∧
      s.trace = busEvents ps ++ es
  /-- A bus-free check that raised BusNotFree took exactly `T` samples, none with both High. -/
  bus_failed : s.useq = .abort .busNotFree →
    ∃ ps es, ps.length = s.stretchTimeout.toNat ∧ (.high, .high) ∉ ps ∧ endsBusy es = false ∧
      s.trace = .rl .scl :: (busEvents ps ++ es)

/-! ## Step bounds (70_reset_and_hazards R212) -/

/-- The bound on the number of micro-operations, any outcome, where `T` is `STRETCH_TIMEOUT`. -/
def microBound (i : Instr) (T : Nat) : Nat :=
  match i with
  | .openSession => 3
  | .driveLow _ | .release _ | .read _ | .delay _ => 1
  | .raiseScl => T + 3
  | .busfree => T + 2
  | .start => T + 3
  | .restart => T + 5
  | .stop => T + 5
  | .send _ | .senda _ | .recv _ => 46 + 9 * T

/-! ## Environments and event lists -/

/-- A peer that holds SCL Low for `m` samples and then lets it go (43_stretch_gate R133). -/
def heldFor (m : Nat) : List Level := List.replicate m .low ++ [.high]

/-- The events of a gate that succeeds after `m` Low samples (43_stretch_gate R130), in order. -/
def gateEvents (m : Nat) : List Event :=
  .rl .scl :: (List.replicate m (.sample .scl .low) ++ [.sample .scl .high])

/-- The events of one data bit of SEND_BYTE (45_byte_transfer R161), in order. -/
def sendBitEvents (step : Nat) (bit : Bool) (m : Nat) : List Event :=
  [.wait step, if bit then .rl .sda else .dl .sda] ++ gateEvents m ++ [.wait step, .dl .scl]

/-- The events of SEND_BYTE from bit `7 - k` on (45_byte_transfer R161), in order: one gate of `ms` for
each data bit, then the ninth clock with gate `m9` and acknowledgement sample `v`. -/
def sendEvents (step : Nat) (b : Byte) (m9 : Nat) (v : Level) : Nat → List Nat → List Event
  | k, m :: ms => sendBitEvents step (b.getLsbD (7 - k)) m ++ sendEvents step b m9 v (k + 1) ms
  | _, [] =>
    [.rl .sda, .wait step] ++ gateEvents m9 ++ [.wait step, .sample .sda v, .dl .scl]

/-- The events of RECV (45_byte_transfer R165), in order: one gate and one sample for each data bit,
then the ninth clock. -/
def recvEvents (step : Nat) (a : AckSel) (m9 : Nat) : List (Nat × Level) → List Event
  | (m, v) :: bits =>
    .wait step :: (gateEvents m ++ [.wait step, .sample .sda v, .dl .scl]) ++ recvEvents step a m9 bits
  | [] =>
    [(match a with | .ack => .dl .sda | .nack => .rl .sda), .wait step] ++ gateEvents m9
      ++ [.wait step, .dl .scl, .rl .sda]

/-- The value of a byte received most-significant bit first (45_byte_transfer R168): `Σ v_k · 2^(7−k)`
over the eight levels. -/
def msbValue : List Level → Nat
  | [] => 0
  | v :: vs => (levelBit v).toNat * 2 ^ vs.length + msbValue vs

/-- The sum of the WAIT units of a trace (70_reset_and_hazards R213). -/
def waitUnits : List Event → Nat
  | [] => 0
  | .wait n :: es => n + waitUnits es
  | _ :: es => waitUnits es

end Sys2Proof.Machine
end

