-- ==== Sys2Proof/Certificates/Slice0/Obligations.lean ====
section
/-!
DEFINITION. The statements for the provers. Each docstring names the rule of spec/ that the statement
formalises. `exec i s` is ONE controller step of command `i` at the position `s.useq` (log 1), and
`execFor i n s` is `n` of them; `s.ready` says that the command stands accepted in an open session and
its first step is next.
-/

open Sys2Proof Sys2Proof.Machine

/-! ## Encoding -/

/-- 30_encoding R86, R90: decoding the word of a command gives the command back, every operand at every
value its field holds. -/
def Obligations.DecodeOfEncode : Prop :=
  ∀ i : Instr, decode (encode i) = .ok i

/-- 30_encoding R86, R87: a word that decodes is the word of its command, so decoding drops no bit. -/
def Obligations.EncodeOfDecode : Prop :=
  ∀ (w : Word) (i : Instr), decode w = .ok i → encode i = w

/-- 30_encoding R89: every word matches at most one row, and a word that matches no row is illegal. -/
def Obligations.RowsMatchAtMostOnce : Prop :=
  ∀ w : Word,
    (∀ (j k : Fin opRows.length), opRows[j].hits w = true → opRows[k].hits w = true → j = k) ∧
    ((∃ e, decode w = .error e) ↔ ∀ r ∈ opRows, r.hits w = false)

/-- 30_encoding R87, R88: a word is a command exactly when its `op` is assigned and every field that its
`op` does not use is zero. -/
def Obligations.UnusedFieldsMustBeZero : Prop :=
  ∀ w : Word, (∃ i, decode w = .ok i) ↔
    opField w ≠ 0x0#4 ∧ opField w ≠ 0xE#4 ∧ opField w ≠ 0xF#4 ∧
    w.extractLsb' 6 2 = 0#2 ∧
    (w.getLsbD 4 = true → opField w = 0x2#4 ∨ opField w = 0x3#4 ∨ opField w = 0x4#4) ∧
    (w.getLsbD 5 = true → opField w = 0xC#4 ∨ opField w = 0xD#4) ∧
    (imm8Field w ≠ 0#8 → opField w = 0xB#4) ∧
    (nField w ≠ 0#16 → opField w = 0x5#4)

/-- 95_test_vectors 2.1: words written out from the encodings decode as the table there says. -/
def Obligations.SampleWordsDecode : Prop :=
  decode 0x00000001 = .ok .openSession ∧ decode 0x00000012 = .ok (.driveLow .sda) ∧
  decode 0x00000003 = .ok (.release .scl) ∧ decode 0x00000014 = .ok (.read .sda) ∧
  decode 0x012C0005 = .ok (.delay 300) ∧ decode 0x00000006 = .ok .raiseScl ∧
  decode 0x00000009 = .ok .restart ∧ decode 0x0000420B = .ok (.send 0x42) ∧
  decode 0x0000002C = .ok (.senda .read) ∧ decode 0x0000002D = .ok (.recv .ack) ∧
  decode 0x00000000 = .error .unassignedOp ∧ decode 0x0000001B = .error .nonzeroUnusedBit

/-- 30_encoding R91, 90_conflicts C2, 45_byte_transfer R163: `SEND_ADDR a, rw` sends the byte that SENDA
sends with `SLAVE_ADDR = a`, and the assembler refuses `a` above 127. -/
def Obligations.SendAddrSendsTheAddressByte : Prop :=
  ∀ (a : Nat) (rw : RwSel),
    (a < 128 → assemble (.sendAddr a rw) = some [encode (.send (addressByte (BitVec.ofNat 7 a) rw))]) ∧
    (128 ≤ a → assemble (.sendAddr a rw) = none)

/-! ## Reset -/

/-- 10_state R46: every piece of state after reset: at power-on, after an assertion of `rst` in any
state, and as long as it stays asserted. (STATUS is 0x00000004: only ACK is 1, and SCL_DRV and SDA_DRV
read 0.) -/
def Obligations.ResetGivesTheResetValues : Prop :=
  ∀ (s : State) (ts : List Turn), s.rst = false → s.sched = .rst true :: ts →
    ∃ t, step s = .next t ∧ ∀ u, u = t ∨ u = State.reset ∨ (u.Inv ∧ u.rst = true) →
      u.drvScl = .released ∧ u.drvSda = .released ∧ padOe u .scl = false ∧ padOe u .sda = false ∧
      u.busy = false ∧ u.opened = false ∧ u.ack = .high ∧ u.level = .low ∧ u.err = .ok ∧
      u.cmdLost = false ∧ statusWord u = 0x00000004 ∧ u.rxdata = 0 ∧ u.bitDelay = 0#32 ∧
      u.stretchTimeout = 0#32 ∧ u.slaveAddr = 0 ∧ u.cur = 0 ∧ u.useq = .idle ∧ u.sr = 0 ∧ u.k = 0 ∧
      u.p = 0 ∧ u.initReq = false

/-- 70_reset_and_hazards R200, R201: an assertion of `rst` in any state, in the middle of a command too,
adds one RESET event and no other. While it stays asserted the controller takes no step, a host write is
lost and a host read returns the value of R46 (what an access then does is read from R200: log 14), until
`rst` is released; nothing is added to the trace, so no abort release runs. -/
def Obligations.ResetAbandonsTheCommand : Prop :=
  ∀ (s : State) (ts : List Turn),
    (s.rst = false → s.sched = .rst true :: ts →
      ∃ t, step s = .next t ∧ t.rst = true ∧ t.trace = .reset :: s.trace ∧ t.sched = ts) ∧
    (s.rst = true →
      (s.sched = [] → step s = .next s) ∧
      (s.sched = .controller :: ts ∨ s.sched = .rst true :: ts → step s = .next { s with sched := ts }) ∧
      (∀ j v, j < 8 → s.sched = .access (.write (Config.base + 4 * j) 4 v) :: ts →
        step s = .next { s with sched := ts }) ∧
      (∀ j, s.Inv → j < 8 → s.sched = .access (.read (Config.base + 4 * j) 4) :: ts →
        step s = .next { s with sched := ts, reads := (if j = 1 then 0x00000004 else 0) :: s.reads }) ∧
      (s.sched = .rst false :: ts → step s = .next { s with sched := ts, rst := false }))

/-! ## Host accesses -/

/-- 20_memory R56: acceptance of a command, atomic with the write, whatever the word; nothing is checked.
(While `rst` is asserted a write is lost: ResetAbandonsTheCommand.) -/
def Obligations.CommandAcceptedWhenNotBusy : Prop :=
  ∀ (s : State) (v : Word) (ts : List Turn),
    s.sched = .access (.write Config.base 4 v) :: ts → s.rst = false → s.busy = false →
    step s = .next { s with sched := ts, cur := v, err := .ok, busy := true, useq := .first }

/-- 20_memory R57: a CMD write while `BUSY = 1` sets CMD_LOST and is discarded. -/
def Obligations.CommandDroppedWhenBusy : Prop :=
  ∀ (s : State) (v : Word) (ts : List Turn),
    s.sched = .access (.write Config.base 4 v) :: ts → s.rst = false → s.busy = true →
    step s = .next { s with sched := ts, cmdLost := true }

/-- 20_memory R53: reserved offsets read 0 and ignore writes, with no side effect. -/
def Obligations.ReservedOffsetsReadZeroIgnoreWrites : Prop :=
  ∀ (s : State) (off : Nat) (v : Word) (ts : List Turn), off = 0x18 ∨ off = 0x1C →
    (s.sched = .access (.read (Config.base + off) 4) :: ts →
      step s = .next { s with sched := ts, reads := 0 :: s.reads }) ∧
    (s.sched = .access (.write (Config.base + off) 4 v) :: ts →
      step s = .next { s with sched := ts })

/-- 10_state R28, R36: a STATUS read returns every field where R28 puts it, the drive states as they are at
the instant of the read, and changes nothing. -/
def Obligations.StatusReadShowsEveryField : Prop :=
  ∀ (s : State) (ts : List Turn), s.sched = .access (.read (Config.base + 0x04) 4) :: ts →
    ∃ w : Word, step s = .next { s with sched := ts, reads := w :: s.reads } ∧
      w.getLsbD 0 = s.busy ∧ w.getLsbD 1 = s.opened ∧ (w.getLsbD 2 = true ↔ s.ack = .high) ∧
      (w.getLsbD 3 = true ↔ s.level = .high) ∧ w.extractLsb' 4 4 = errNumber s.err ∧
      w.getLsbD 8 = s.cmdLost ∧ (w.getLsbD 9 = true ↔ s.drvScl = .drivingLow) ∧
      (w.getLsbD 10 = true ↔ s.drvSda = .drivingLow) ∧ w.extractLsb' 11 21 = 0#21

/-- 10_state R37, 20_memory R59: reserved STATUS bits read 0, and a STATUS write clears CMD_LOST when its
bit 8 is 1 and does nothing else whatever its other bits. -/
def Obligations.StatusWriteClearsOnlyCmdLost : Prop :=
  ∀ (s : State) (v : Word) (ts : List Turn),
    (statusWord s).extractLsb' 11 21 = 0#21 ∧
    (s.sched = .access (.write (Config.base + 0x04) 4 v) :: ts → s.rst = false →
      step s = .next { s with sched := ts, cmdLost := s.cmdLost && !v.getLsbD 8 })

/-- 10_state R42, R41: a configuration write is stored while `OPENED = 0` and `BUSY = 0`; otherwise it is
ignored and no flag records it. SLAVE_ADDR keeps bits 6:0 only. -/
def Obligations.ConfigurationLockedByOpenAndBusy : Prop :=
  ∀ (s : State) (v : Word) (ts : List Turn) (off : Nat), off = 0x0C ∨ off = 0x10 ∨ off = 0x14 →
    s.sched = .access (.write (Config.base + off) 4 v) :: ts →
    (s.opened = true ∨ s.busy = true → step s = .next { s with sched := ts }) ∧
    (s.opened = false → s.busy = false → s.rst = false →
      step s = .next
        (if off = 0x0C then { s with sched := ts, bitDelay := v }
         else if off = 0x10 then { s with sched := ts, stretchTimeout := v }
         else { s with sched := ts, slaveAddr := v.extractLsb' 0 7 }))

/-- 20_memory R58: a read changes nothing of the block and returns the register: CMD 0, RXDATA its byte
zero-extended, the configuration registers their stored values, STATUS its word. -/
def Obligations.ReadsHaveNoSideEffect : Prop :=
  ∀ (s : State) (ts : List Turn) (off : Nat) (w : Word),
    (off, w) ∈ [(0x00, 0), (0x04, statusWord s), (0x08, s.rxdata.setWidth 32), (0x0C, s.bitDelay),
      (0x10, s.stretchTimeout), (0x14, s.slaveAddr.setWidth 32)] →
    s.sched = .access (.read (Config.base + off) 4) :: ts →
    step s = .next { s with sched := ts, reads := w :: s.reads }

/-- 20_memory R52: the only accesses admitted are 32-bit accesses at `BASE + 4·j`, `j = 0..7`; any other
width or alignment is refused under its own name. -/
def Obligations.OnlyAlignedWindowWordsAdmitted : Prop :=
  ∀ (s : State) (ts : List Turn) (a : HostAccess) (addr bytes : Nat),
    (a = .read addr bytes ∨ ∃ v, a = .write addr bytes v) → s.sched = .access a :: ts →
    ((∃ t, step s = .next t) ↔ bytes = 4 ∧ ∃ j, j < 8 ∧ addr = Config.base + 4 * j) ∧
    (bytes ≠ 4 ∨ addr % 4 ≠ 0 → step s = .refused .hostNarrowAccess)

/-- 20_memory R58, R59: no host access moves a line, adds to the trace, or writes a result register, OPENED
or the byte engine's hidden state. -/
def Obligations.HostAccessMovesNoLine : Prop :=
  ∀ (s t : State) (a : HostAccess) (ts : List Turn), s.sched = .access a :: ts → step s = .next t →
    t.drvScl = s.drvScl ∧ t.drvSda = s.drvSda ∧ t.trace = s.trace ∧ t.opened = s.opened ∧
    t.ack = s.ack ∧ t.level = s.level ∧ t.rxdata = s.rxdata ∧ t.sr = s.sr ∧ t.k = s.k ∧ t.p = s.p ∧
    t.initReq = s.initReq ∧ t.ackLatch = s.ackLatch ∧ t.sclIn = s.sclIn ∧ t.sdaIn = s.sdaIn ∧
    t.initIn = s.initIn ∧ t.draws = s.draws ∧ t.sched = ts ∧ t.rst = s.rst

/-! ## The controller's turn and the checks -/

/-- 20_memory R62, R66: while `BUSY = 1` and `rst` is released, the controller's turn runs the command decoded from `cur`, and
nothing else changes but the list of turns. -/
def Obligations.StepRunsTheDecodedCommand : Prop :=
  ∀ (s : State) (i : Instr), s.rst = false → s.busy = true → decode s.cur = .ok i →
    (s.sched = [] → step s = exec i s) ∧
    (∀ ts, s.sched = .controller :: ts → step s = exec i { s with sched := ts })

/-- 70_reset_and_hazards R202, R214: with `BUSY = 0` and no access pending the block waits. That waiting is
a step which changes nothing is the model's choice (log 5). -/
def Obligations.WaitsForACommand : Prop :=
  ∀ s : State, s.atRest → step s = .next s

/-- 30_encoding R88, 60_exceptions R181: an accepted word that decodes to no command ends at its first
controller step with IllegalCommand, whether or not the session is open; no micro-operation runs. -/
def Obligations.IllegalWordEndsWithoutMicroOperation : Prop :=
  ∀ (s : State) (e : IllegalWord), s.rst = false → s.busy = true → s.useq = .first →
    decode s.cur = .error e →
    (s.sched = [] → step s = .next { s with err := .illegalCommand, busy := false, useq := .idle }) ∧
    (∀ ts, s.sched = .controller :: ts →
      step s = .next { s with sched := ts, err := .illegalCommand, busy := false, useq := .idle })

/-- 60_exceptions R181, 40_open R100, R102: at the first step, NotOpen for every command but OPEN while
`OPENED = 0`; for OPEN, AlreadyOpen while `OPENED = 1`, else BadConfig while a configuration value is 0.
No micro-operation runs and nothing else changes. -/
def Obligations.AcceptanceChecksInOrder : Prop :=
  ∀ (i : Instr) (s : State), s.useq = .first →
    (i ≠ .openSession → s.opened = false →
      exec i s = .next { s with err := .notOpen, busy := false, useq := .idle }) ∧
    (i = .openSession → s.opened = true →
      exec i s = .next { s with err := .alreadyOpen, busy := false, useq := .idle }) ∧
    (i = .openSession → s.opened = false → s.bitDelay = 0#32 ∨ s.stretchTimeout = 0#32 →
      exec i s = .next { s with err := .badConfig, busy := false, useq := .idle })

/-! ## OPEN -/

/-- 40_open R100, R101: OPEN's INIT step takes the GPIO subsystem's answer, whatever it is. On failure the
command ends with SubsystemInitFailed, OPENED and the lines unchanged. -/
def Obligations.OpenAsksTheSubsystemOnce : Prop :=
  ∀ (s u : State) (b : Bool), s.useq = .first → s.opened = false → s.bitDelay ≠ 0#32 →
    s.stretchTimeout ≠ 0#32 → drawInit s = (b, u) →
    exec .openSession s = .next
      (if b then { u with initReq := false, trace := .init true :: s.trace, useq := .pos 1 }
       else { u with initReq := false, trace := .init false :: s.trace, err := .subsystemInitFailed,
                     busy := false, useq := .idle })

/-- 40_open R100: an OPEN whose INIT answers ok runs `INIT = ok; RL SCL; RL SDA` and ends with
`OPENED = 1`, `ERR = 0` and both lines released. -/
def Obligations.OpenRunsToOpened : Prop :=
  ∀ (s : State) (bs : List Bool), s.useq = .first → s.opened = false → s.bitDelay ≠ 0#32 →
    s.stretchTimeout ≠ 0#32 → s.initIn = true :: bs →
    execFor .openSession 3 s = .next
      { s with drvScl := .released, drvSda := .released, opened := true, initReq := false, initIn := bs,
               trace := .rl .sda :: .rl .scl :: .init true :: s.trace,
               err := .ok, busy := false, useq := .idle }

/-! ## Line driver and delay -/

/-- 41_line_driver R110, R111: DRIVE_LOW and RELEASE change the selected line alone, record their event
even where the line already is in that state, and complete in that one step. -/
def Obligations.DriveLowAndReleaseSetOneLine : Prop :=
  ∀ (s : State) (l : Line), s.ready →
    exec (.driveLow l) s = .next { s.setDrv l .drivingLow with
      trace := .dl l :: s.trace, err := .ok, busy := false, useq := .idle } ∧
    exec (.release l) s = .next { s.setDrv l .released with
      trace := .rl l :: s.trace, err := .ok, busy := false, useq := .idle }

/-- 00_scope R16: a line the block drives reads Low and takes no draw; a released line reads what the
environment presents, or, where its list has run out, the free value of a fresh draw. -/
def Obligations.LineLevelIsWiredAnd : Prop :=
  ∀ (s : State) (l : Line),
    (s.drv l = .drivingLow → lineLevel l s = (.low, s)) ∧
    (∀ v vs, s.drv l = .released → s.lineIn l = v :: vs →
      lineLevel l s = (v, s.setLineIn l vs)) ∧
    (s.drv l = .released → s.lineIn l = [] →
      lineLevel l s = (Config.envLevel l s.draws, { s with draws := s.draws + 1 }))

/-- 41_line_driver R112: READ samples the line in either drive state, stores the level in LEVEL and
completes in that one step. -/
def Obligations.ReadStoresTheSampledLevel : Prop :=
  ∀ (s u : State) (l : Line) (v : Level), s.ready → lineLevel l s = (v, u) →
    exec (.read l) s = .next { u with
      level := v, trace := .sample l v :: s.trace, err := .ok, busy := false, useq := .idle } ∧
    (s.drv l = .drivingLow → v = .low)

/-- 42_timing R120: DELAY n records `WAIT n`, the raw operand, and completes; nothing else changes. -/
def Obligations.DelayRecordsItsUnits : Prop :=
  ∀ (s : State) (n : BitVec 16), s.ready →
    exec (.delay n) s = .next { s with
      trace := .wait n.toNat :: s.trace, err := .ok, busy := false, useq := .idle }

/-! ## Clock-stretch gate -/

/-- 43_stretch_gate R133: in the gate of any command, a peer that holds SCL low for `m` samples and then
releases it makes the gate block for those samples; it succeeds on sample `m + 1` if `m < T`, and raises
ClockHeld, with the abort release, if `m ≥ T`. -/
def Obligations.GateBlocksUntilReleased : Prop :=
  ∀ (i : Instr) (s : State) (n m : Nat) (rest : List Level),
    (commandOf i).micros[n]? = some .gatePoll → s.useq = .pos n → s.p = 0 → s.drvScl = .released →
    s.sclIn = heldFor m ++ rest →
    (m < s.stretchTimeout.toNat → ∀ u : State,
      u = { s with p := BitVec.ofNat 32 (m + 1), sclIn := rest,
                   trace := .sample .scl .high :: (List.replicate m (.sample .scl .low) ++ s.trace) } →
      execFor i (m + 1) s = .next
        (if n + 1 < (commandOf i).micros.length then { u with useq := .pos (n + 1) }
         else complete ((commandOf i).finish u))) ∧
    (s.stretchTimeout.toNat ≤ m →
      execFor i (s.stretchTimeout.toNat + 2) s = .next
        { s with drvScl := .released, drvSda := .released, p := s.stretchTimeout,
                 sclIn := heldFor (m - s.stretchTimeout.toNat) ++ rest,
                 trace := .rl .sda :: .rl .scl ::
                   (List.replicate s.stretchTimeout.toNat (.sample .scl .low) ++ s.trace),
                 err := .clockHeld, busy := false, useq := .idle })

/-- 43_stretch_gate R131: RAISE_SCL on its own. -/
def Obligations.RaiseSclRunsTheGate : Prop :=
  ∀ (s : State) (m : Nat) (rest : List Level), s.ready → m < s.stretchTimeout.toNat →
    s.sclIn = heldFor m ++ rest →
    execFor .raiseScl (m + 2) s = .next
      { s with drvScl := .released, p := BitVec.ofNat 32 (m + 1), sclIn := rest,
               trace := (gateEvents m).reverse ++ s.trace,
               err := .ok, busy := false, useq := .idle }

/-! ## Condition generator -/

/-- 44_conditions R141: BUSFREE with the lines free after fewer than `T` busy samples: no line changes. -/
def Obligations.BusfreeRunsToFree : Prop :=
  ∀ (s : State) (ps : List (Level × Level)) (cs ds : List Level), s.ready →
    s.drvScl = .released → s.drvSda = .released → ps.length < s.stretchTimeout.toNat →
    (.high, .high) ∉ ps → s.sclIn = ps.map (·.1) ++ .high :: cs → s.sdaIn = ps.map (·.2) ++ .high :: ds →
    execFor .busfree (ps.length + 1) s = .next
      { s with p := BitVec.ofNat 32 (ps.length + 1), sclIn := cs, sdaIn := ds,
               trace := .sample2 .high .high :: ((busEvents ps).reverse ++ s.trace),
               err := .ok, busy := false, useq := .idle }

/-- 44_conditions R142: START from a free bus: SDA falls, a half-bit delay, SCL falls. -/
def Obligations.StartRunsItsStepList : Prop :=
  ∀ (s : State) (ps : List (Level × Level)) (cs ds : List Level), s.ready →
    s.drvScl = .released → s.drvSda = .released → ps.length < s.stretchTimeout.toNat →
    (.high, .high) ∉ ps → s.sclIn = ps.map (·.1) ++ .high :: cs → s.sdaIn = ps.map (·.2) ++ .high :: ds →
    execFor .start (ps.length + 4) s = .next
      { s with drvScl := .drivingLow, drvSda := .drivingLow, p := BitVec.ofNat 32 (ps.length + 1),
               sclIn := cs, sdaIn := ds,
               trace := .dl .scl :: .wait (2 * s.bitDelay.toNat) :: .dl .sda ::
                 .sample2 .high .high :: ((busEvents ps).reverse ++ s.trace),
               err := .ok, busy := false, useq := .idle }

/-- 44_conditions R143: RESTART from a free bus: the bus-free check, then the source's step list. -/
def Obligations.RestartRunsItsStepList : Prop :=
  ∀ (s : State) (ps : List (Level × Level)) (cs ds : List Level), s.ready →
    s.drvScl = .released → s.drvSda = .released → ps.length < s.stretchTimeout.toNat →
    (.high, .high) ∉ ps → s.sclIn = ps.map (·.1) ++ .high :: cs → s.sdaIn = ps.map (·.2) ++ .high :: ds →
    execFor .restart (ps.length + 6) s = .next
      { s with drvScl := .drivingLow, drvSda := .released, p := BitVec.ofNat 32 (ps.length + 1),
               sclIn := cs, sdaIn := ds,
               trace := .wait (4 * s.bitDelay.toNat) :: .rl .sda :: .dl .scl ::
                 .wait (4 * s.bitDelay.toNat) :: .dl .sda ::
                 .sample2 .high .high :: ((busEvents ps).reverse ++ s.trace),
               err := .ok, busy := false, useq := .idle }

/-- 44_conditions R144: STOP with a gate that succeeds after `m` Low samples, whatever the lines' state. -/
def Obligations.StopRunsItsStepList : Prop :=
  ∀ (s : State) (m : Nat) (rest : List Level), s.ready → m < s.stretchTimeout.toNat →
    s.sclIn = heldFor m ++ rest →
    execFor .stop (m + 6) s = .next
      { s with drvScl := .released, drvSda := .released, p := BitVec.ofNat 32 (m + 1), sclIn := rest,
               trace := .rl .sda :: .wait s.bitDelay.toNat ::
                 ((gateEvents m).reverse ++ .wait s.bitDelay.toNat :: .dl .sda :: s.trace),
               err := .ok, busy := false, useq := .idle }

/-- 44_conditions R140, R148: if the environment shows no pair of High levels at the `T` samples of the
bus-free check, BUSFREE, START and RESTART end with BusNotFree after exactly those samples and the abort
release, with no DL of their own. -/
def Obligations.BusyBusEndsInBusNotFree : Prop :=
  ∀ (i : Instr) (s : State) (ps : List (Level × Level)) (cs ds : List Level),
    i = .busfree ∨ i = .start ∨ i = .restart → s.ready →
    s.drvScl = .released → s.drvSda = .released → ps.length = s.stretchTimeout.toNat →
    (.high, .high) ∉ ps → s.sclIn = ps.map (·.1) ++ cs → s.sdaIn = ps.map (·.2) ++ ds →
    execFor i (ps.length + 2) s = .next
      { s with p := s.stretchTimeout, sclIn := cs, sdaIn := ds,
               trace := .rl .sda :: .rl .scl :: ((busEvents ps).reverse ++ s.trace),
               err := .busNotFree, busy := false, useq := .idle }

/-- 44_conditions R140, R141, R143, R146: while the block itself drives a line low, BUSFREE, START and
RESTART end with BusNotFree after `T` samples whatever the environment does, and the abort release frees
both lines. -/
def Obligations.OwnDriveMakesTheBusBusy : Prop :=
  ∀ (i : Instr) (s : State), i = .busfree ∨ i = .start ∨ i = .restart → s.ready →
    s.drvScl = .drivingLow ∨ s.drvSda = .drivingLow →
    ∃ t ps, execFor i (s.stretchTimeout.toNat + 2) s = .next t ∧ t.err = .busNotFree ∧
      t.busy = false ∧ t.useq = .idle ∧ t.drvScl = .released ∧ t.drvSda = .released ∧
      ps.length = s.stretchTimeout.toNat ∧ (.high, .high) ∉ ps ∧
      t.trace = .rl .sda :: .rl .scl :: (busEvents ps ++ s.trace)

/-- 44_conditions R147: the end states of the condition commands on success, in every environment. -/
def Obligations.ConditionEndStates : Prop :=
  ∀ (i : Instr) (s t : State) (n : Nat), s.ready → execFor i n s = .next t → t.useq = .idle →
    t.err = .ok →
    (i = .busfree → t.drvScl = s.drvScl ∧ t.drvSda = s.drvSda ∧
      t.drvScl = .released ∧ t.drvSda = .released) ∧
    (i = .start → t.drvScl = .drivingLow ∧ t.drvSda = .drivingLow) ∧
    (i = .restart → t.drvScl = .drivingLow ∧ t.drvSda = .released) ∧
    (i = .stop → t.drvScl = .released ∧ t.drvSda = .released)

/-! ## Byte transfer engine -/

/-- 45_byte_transfer R164: `SENDA W` sends `2a` and `SENDA R` sends `2a + 1`, and the map from address and
selector to the byte is one-to-one. The byte sent is the one its first step loads into `sr`. -/
def Obligations.SendaSendsTwiceTheAddress : Prop :=
  (∀ (s : State) (rw : RwSel), s.ready → ∃ t, exec (.senda rw) s = .next t ∧
    t.sr.toNat = 2 * s.slaveAddr.toNat + (match rw with | .write => 0 | .read => 1)) ∧
  (∀ (a b : BitVec 7) (x y : RwSel), addressByte a x = addressByte b y → a = b ∧ x = y)

/-- 45_byte_transfer R160, R161, R163: a SEND or SENDA whose nine gates succeed runs exactly the step list
of SEND_BYTE, most-significant bit first, with one gate for each bit and one for the ninth clock, and ends
with the sampled acknowledgement in ACK, SCL driven low and SDA released. -/
def Obligations.SendRunsItsStepList : Prop :=
  ∀ (i : Instr) (s : State) (b : Byte) (ms : List Nat) (m9 : Nat) (rest vs : List Level) (v : Level),
    s.ready → sentByte s i = some b → ms.length = 8 →
    (∀ m ∈ ms, m < s.stretchTimeout.toNat) → m9 < s.stretchTimeout.toNat →
    s.sclIn = ms.flatMap heldFor ++ (heldFor m9 ++ rest) → s.sdaIn = v :: vs →
    execFor i (55 + ms.sum + m9) s = .next
      { s with drvScl := .drivingLow, drvSda := .released, ack := v, ackLatch := v, sr := b, k := 8#4,
               p := BitVec.ofNat 32 (m9 + 1), sclIn := rest, sdaIn := vs,
               trace := (sendEvents s.bitDelay.toNat b m9 v 0 ms).reverse ++ s.trace,
               err := .ok, busy := false, useq := .idle }

/-- 45_byte_transfer R165, R168: a RECV that starts with SDA released and whose nine gates succeed runs
exactly its step list and puts `Σ v_k · 2^(7−k)` of its eight samples into RXDATA. -/
def Obligations.RecvRunsItsStepList : Prop :=
  ∀ (a : AckSel) (s : State) (bits : List (Nat × Level)) (m9 : Nat) (rest vs : List Level),
    s.ready → s.drvSda = .released → bits.length = 8 →
    (∀ q ∈ bits, q.1 < s.stretchTimeout.toNat) → m9 < s.stretchTimeout.toNat →
    s.sclIn = bits.flatMap (fun q => heldFor q.1) ++ (heldFor m9 ++ rest) →
    s.sdaIn = bits.map (·.2) ++ vs →
    execFor (.recv a) (55 + (bits.map (·.1)).sum + m9) s = .next
      { s with drvScl := .drivingLow, drvSda := .released,
               rxdata := BitVec.ofNat 8 (msbValue (bits.map (·.2))),
               sr := BitVec.ofNat 8 (msbValue (bits.map (·.2))), k := 8#4,
               p := BitVec.ofNat 32 (m9 + 1), sclIn := rest, sdaIn := vs,
               trace := (recvEvents s.bitDelay.toNat a m9 bits).reverse ++ s.trace,
               err := .ok, busy := false, useq := .idle }

/-- 45_byte_transfer R166: a RECV that starts with SDA driven low, as after START, and whose nine gates
succeed assembles 0x00 whatever the environment presents on SDA. That a driven line takes nothing from the
environment's list is the model's choice (log 3), and so are the end values of `sr`, `k` and `p` (log 17). -/
def Obligations.RecvWithSdaDrivenReadsZero : Prop :=
  ∀ (a : AckSel) (s : State) (ms : List Nat) (m9 : Nat) (rest : List Level),
    s.ready → s.drvSda = .drivingLow → ms.length = 8 →
    (∀ m ∈ ms, m < s.stretchTimeout.toNat) → m9 < s.stretchTimeout.toNat →
    s.sclIn = ms.flatMap heldFor ++ (heldFor m9 ++ rest) →
    execFor (.recv a) (55 + ms.sum + m9) s = .next
      { s with drvScl := .drivingLow, drvSda := .released, rxdata := 0, sr := 0, k := 8#4,
               p := BitVec.ofNat 32 (m9 + 1), sclIn := rest,
               trace := (recvEvents s.bitDelay.toNat a m9 (ms.map (·, .low))).reverse ++ s.trace,
               err := .ok, busy := false, useq := .idle }

/-- 45_byte_transfer R160, R165, 60_exceptions R183, R184: when a gate of a byte command runs out of
budget, after `ms.length` gates that succeeded, the command ends with ClockHeld, both lines are released,
and ACK, LEVEL, RXDATA and OPENED are unchanged. -/
def Obligations.HeldClockEndsTheByteCommand : Prop :=
  ∀ (i : Instr) (s : State) (ms : List Nat) (rest : List Level),
    isByteCommand i = true → s.ready → ms.length ≤ 8 → (∀ m ∈ ms, m < s.stretchTimeout.toNat) →
    s.sclIn = ms.flatMap heldFor ++ (List.replicate s.stretchTimeout.toNat .low ++ rest) →
    ∃ t, execFor i (ms.sum + 6 * ms.length + s.stretchTimeout.toNat +
          (if writesAck i = true ∨ ms.length = 8 then 5 else 4)) s = .next t ∧
      t.err = .clockHeld ∧ t.busy = false ∧ t.useq = .idle ∧ t.drvScl = .released ∧
      t.drvSda = .released ∧ t.sclIn = rest ∧ t.ack = s.ack ∧ t.level = s.level ∧
      t.rxdata = s.rxdata ∧ t.opened = s.opened

/-- 45_byte_transfer R169, 70_reset_and_hazards R213: the events of a SEND, SENDA or RECV whose nine gates
succeed, whatever the environment presents on SDA: nine gates (nine `RL SCL`, each followed by samples of
SCL of which the last alone is High), eighteen WAIT(STEP) of 18 STEP units in all, nine `DL SCL`, and nine
SDA-setting operations and one SDA sample of a sender, or two and eight of RECV. The environment of the
gates is a list (log 3); the number of steps is the model's grain (log 1). -/
def Obligations.ByteCommandCounts : Prop :=
  ∀ (i : Instr) (s : State) (ms : List Nat) (m9 : Nat) (rest : List Level),
    isByteCommand i = true → s.ready → ms.length = 8 → (∀ m ∈ ms, m < s.stretchTimeout.toNat) →
    m9 < s.stretchTimeout.toNat → s.sclIn = ms.flatMap heldFor ++ (heldFor m9 ++ rest) →
    ∃ t es, execFor i (55 + ms.sum + m9) s = .next t ∧ t.useq = .idle ∧ t.err = .ok ∧
      t.trace = es ++ s.trace ∧
      es.count (.rl .scl) = 9 ∧ es.count (.sample .scl .high) = 9 ∧
      es.count (.sample .scl .low) = ms.sum + m9 ∧
      es.count (.wait (Config.dlyStep s.bitDelay)) = 18 ∧
      waitUnits es = 18 * Config.dlyStep s.bitDelay ∧ es.count (.dl .scl) = 9 ∧
      es.count (.dl .sda) + es.count (.rl .sda) = (if writesAck i = true then 9 else 2) ∧
      es.count (.sample .sda .low) + es.count (.sample .sda .high) =
        (if writesAck i = true then 1 else 8)

/-! ## Completion of the commands of several steps -/

/-- 40_open R100, 43_stretch_gate R131, 44_conditions R141 to R144, 45_byte_transfer R160, R163, R165: the
last controller step of each command of several steps does its micro-operation, writes the command's
result and completes. -/
def Obligations.LastStepWritesTheResult : Prop :=
  ∀ s : State,
    (s.useq = .pos 2 → exec .openSession s = .next { s with
      drvSda := .released, trace := .rl .sda :: s.trace, opened := true,
      err := .ok, busy := false, useq := .idle }) ∧
    (∀ vs, s.useq = .pos 1 → s.p ≠ s.stretchTimeout → s.drvScl = .released → s.sclIn = .high :: vs →
      exec .raiseScl s = .next { s with
        p := s.p + 1, sclIn := vs, trace := .sample .scl .high :: s.trace,
        err := .ok, busy := false, useq := .idle }) ∧
    (∀ cs ds, s.useq = .pos 0 → s.p ≠ s.stretchTimeout → s.drvScl = .released → s.drvSda = .released →
      s.sclIn = .high :: cs → s.sdaIn = .high :: ds →
      exec .busfree s = .next { s with
        p := s.p + 1, sclIn := cs, sdaIn := ds, trace := .sample2 .high .high :: s.trace,
        err := .ok, busy := false, useq := .idle }) ∧
    (s.useq = .pos 3 → exec .start s = .next { s with
      drvScl := .drivingLow, trace := .dl .scl :: s.trace, err := .ok, busy := false, useq := .idle }) ∧
    (s.useq = .pos 5 → exec .restart s = .next { s with
      trace := .wait (4 * s.bitDelay.toNat) :: s.trace, err := .ok, busy := false, useq := .idle }) ∧
    (s.useq = .pos 5 → exec .stop s = .next { s with
      drvSda := .released, trace := .rl .sda :: s.trace, err := .ok, busy := false, useq := .idle }) ∧
    (∀ b, s.useq = .pos 12 → exec (.send b) s = .next { s with
      drvScl := .drivingLow, trace := .dl .scl :: s.trace, ack := s.ackLatch,
      err := .ok, busy := false, useq := .idle }) ∧
    (∀ rw, s.useq = .pos 12 → exec (.senda rw) s = .next { s with
      drvScl := .drivingLow, trace := .dl .scl :: s.trace, ack := s.ackLatch,
      err := .ok, busy := false, useq := .idle }) ∧
    (∀ a, s.useq = .pos 12 → exec (.recv a) s = .next { s with
      drvSda := .released, trace := .rl .sda :: s.trace, rxdata := s.sr,
      err := .ok, busy := false, useq := .idle })

/-- 70_reset_and_hazards R212: every command ends, in every environment and from every state in which it
has just been accepted, within the bound of R212 on its micro-operations. -/
def Obligations.EveryCommandEndsWithinItsBound : Prop :=
  ∀ (i : Instr) (s : State), s.useq = .first →
    ∃ n t es, 0 < n ∧ execFor i n s = .next t ∧ t.useq = .idle ∧ t.busy = false ∧
      t.trace = es ++ s.trace ∧ es.length ≤ microBound i s.stretchTimeout.toNat ∧ n ≤ es.length + 1

/-! ## Invariants -/

/-- The invariant of the machine and its two companions hold at reset. -/
def Obligations.ResetMeetsTheInvariants : Prop :=
  State.reset.Inv ∧ State.reset.SdaHeld ∧ State.reset.PollCounts

/-- 10_state R43, R48, 60_exceptions R182, R184: every step of the whole machine keeps `State.Inv`: BUSY
is 1 exactly when `useq` is not Idle, ERR reads 0 while busy, the configuration of an open session is
non-zero, `p` is at most `T`, `k` at most 8, and the position is one of the executing command's. -/
def Obligations.EveryStepKeepsTheInvariant : Prop :=
  ∀ s t : State, s.Inv → step s = .next t → t.Inv

/-- 45_byte_transfer R162, R167: every step keeps `State.SdaHeld`: from the gate to the DL(SCL) of a data
bit SDA shows that bit of the byte, and in the ninth clock it is released by a sender and shows the ACK
choice of RECV. -/
def Obligations.EveryStepKeepsSdaHeld : Prop :=
  ∀ s t : State, s.Inv → s.SdaHeld → step s = .next t → t.SdaHeld

/-- 43_stretch_gate R132, 44_conditions R140: every step keeps `State.PollCounts`: a gate that raises
ClockHeld has taken exactly `T` samples, all Low, and a bus-free check that raises BusNotFree has taken
exactly `T` samples, none with both lines High: the event before them is none of the check's. -/
def Obligations.EveryStepKeepsPollCounts : Prop :=
  ∀ s t : State, s.Inv → s.PollCounts → step s = .next t → t.PollCounts

/-- 60_exceptions R186: no error stops the block: from a state of a run no step faults, and the only
refusals are those of a host access (20_memory R52). -/
def Obligations.NoStepStopsTheBlock : Prop :=
  ∀ s : State, s.Inv →
    (∃ t, step s = .next t) ∨
    (∃ a ts, s.sched = .access a :: ts ∧
      (step s = .refused .hostNarrowAccess ∨ step s = .refused .hostOutsideWindow))

/-! ## Whole-machine rules and frames -/

/-- 10_state R22, 00_scope R17: a step adds at most one event to the trace, and a line's drive state
changes only with the DL or RL of that line, or by reset. -/
def Obligations.DriveStateFollowsTheTrace : Prop :=
  ∀ (s t : State) (l : Line), step s = .next t →
    (t.trace = s.trace ∨ ∃ e, t.trace = e :: s.trace) ∧
    (t.drv l = s.drv l ∨ (t.drv l = .drivingLow ∧ t.trace = .dl l :: s.trace) ∨
      (t.drv l = .released ∧ t.trace = .rl l :: s.trace) ∨
      (t.drv l = .released ∧ t.trace = .reset :: s.trace))

/-- 10_state R30: OPENED is set only by a successful OPEN, no command clears it, and only reset does. -/
def Obligations.OpenedSetByOpenClearedByReset : Prop :=
  ∀ s t : State, step s = .next t →
    (s.opened = false → t.opened = true → s.busy = true ∧ decode s.cur = .ok .openSession ∧
      s.useq = .pos 2 ∧ t.err = .ok ∧ t.busy = false) ∧
    (s.opened = true → t.opened = false → ∃ ts, s.sched = .rst true :: ts)

/-- 40_open R102: while `OPENED = 0` every command but OPEN ends with NotOpen at its first step, and no
step moves a line: not even OPEN's own releases, for both lines are as reset left them. -/
def Obligations.NoLineMovesBeforeOpen : Prop :=
  (∀ s t : State, s.Inv → s.opened = false → step s = .next t →
    t.drvScl = s.drvScl ∧ t.drvSda = s.drvSda) ∧
  (∀ (i : Instr) (s : State), i ≠ .openSession → s.useq = .first → s.opened = false →
    exec i s = .next { s with err := .notOpen, busy := false, useq := .idle })

/-- 60_exceptions R180, R182, R185: in a state of a run, a step of an executing command leaves an error
code only if that code is among those R180 lists for the command (none of which is a Nack), and BUSY
falls with it. -/
def Obligations.ErrorsAreTheCommandsOwn : Prop :=
  ∀ s t : State, s.Inv → s.busy = true → step s = .next t → t.err ≠ .ok →
    t.busy = false ∧ t.useq = .idle ∧
    ((t.err = .illegalCommand ∧ ∃ e, decode s.cur = .error e) ∨
     (decode s.cur = .ok .openSession ∧
       (t.err = .alreadyOpen ∨ t.err = .badConfig ∨ t.err = .subsystemInitFailed)) ∨
     (∃ i, decode s.cur = .ok i ∧ i ≠ .openSession ∧ (t.err = .notOpen ∨ pollError i = some t.err)))

/-- 10_state R29: BUSY rises exactly with an accepted CMD write (none is accepted under `rst`), and falls at the controller step that
completes the command, which leaves `useq` Idle, or at a reset. No other event writes it. -/
def Obligations.BusySetByAcceptanceClearedByCompletion : Prop :=
  ∀ s t : State, step s = .next t →
    (s.busy = false →
      (t.busy = true ↔ s.rst = false ∧ ∃ v ts, s.sched = .access (.write Config.base 4 v) :: ts)) ∧
    (s.busy = true → t.busy = false → (∃ ts, s.sched = .rst true :: ts) ∨
      (t.useq = .idle ∧ (s.sched = [] ∨ ∃ ts, s.sched = .controller :: ts))) ∧
    (s.useq ≠ .idle → t.useq = .idle → t.busy = false)

/-- 70_reset_and_hazards R207: from a state of a run, while a command is executing ERR reads 0, and ACK,
LEVEL and RXDATA still hold the results of the command before. -/
def Obligations.ResultsOfABusyBlockAreOld : Prop :=
  ∀ s t : State, s.Inv → s.busy = true → step s = .next t → t.busy = true →
    t.err = .ok ∧ t.ack = s.ack ∧ t.level = s.level ∧ t.rxdata = s.rxdata

/-- 10_state R31, R32, R38: short of reset, ACK is written only at the successful completion of SEND or
SENDA, LEVEL at that of READ, and RXDATA at that of RECV. -/
def Obligations.ResultsWrittenOnlyAtCompletion : Prop :=
  ∀ s t : State, step s = .next t → (∃ ts, s.sched = .rst true :: ts) ∨
    ((t.ack = s.ack ∨ (t.err = .ok ∧ t.busy = false ∧ s.busy = true ∧ t.ack = s.ackLatch ∧
      ∃ i, decode s.cur = .ok i ∧ writesAck i = true)) ∧
    (t.level = s.level ∨ (t.err = .ok ∧ t.busy = false ∧ s.busy = true ∧
      ∃ l, decode s.cur = .ok (.read l) ∧ t.trace = .sample l t.level :: s.trace)) ∧
    (t.rxdata = s.rxdata ∨ (t.err = .ok ∧ t.busy = false ∧ s.busy = true ∧ t.rxdata = s.sr ∧
      ∃ a, decode s.cur = .ok (.recv a))))

/-- 20_memory R66: short of reset, no step changes the command word while a command executes, and none
changes the configuration while a command executes or the session is open. -/
def Obligations.ExecutingCommandIsCaptured : Prop :=
  ∀ s t : State, step s = .next t → (∃ ts, s.sched = .rst true :: ts) ∨
    ((s.busy = true → t.cur = s.cur) ∧
     (s.busy = true ∨ s.opened = true → t.bitDelay = s.bitDelay ∧ t.stretchTimeout = s.stretchTimeout ∧
       t.slaveAddr = s.slaveAddr))

/-- 10_state R49: what no command writes: the configuration registers, CMD_LOST, `cur`, and the host's
side. BIT_DELAY, STRETCH_TIMEOUT and SLAVE_ADDR are the window's only storage (the block has no memory). -/
def Obligations.FrameOfEveryCommand : Prop :=
  ∀ (i : Instr) (s t : State), exec i s = .next t →
    t.bitDelay = s.bitDelay ∧ t.stretchTimeout = s.stretchTimeout ∧ t.slaveAddr = s.slaveAddr ∧
    t.cmdLost = s.cmdLost ∧ t.cur = s.cur ∧ t.sched = s.sched ∧ t.reads = s.reads ∧ t.rst = s.rst ∧
    (i ≠ .openSession → t.opened = s.opened ∧ t.initReq = s.initReq ∧ t.initIn = s.initIn) ∧
    (writesAck i = false → t.ack = s.ack ∧ t.ackLatch = s.ackLatch) ∧
    ((∀ l, i ≠ .read l) → t.level = s.level) ∧ ((∀ a, i ≠ .recv a) → t.rxdata = s.rxdata) ∧
    (isByteCommand i = false → t.sr = s.sr ∧ t.k = s.k)

/-- 10_state R49: in a state of a run, DRIVE_LOW and RELEASE leave the other line alone; READ and DELAY
move no line; none of the four touches the poll counter, and only READ takes a draw. -/
def Obligations.FrameOfLineDriverAndDelay : Prop :=
  ∀ (i : Instr) (s t : State), s.Inv → decode s.cur = .ok i → exec i s = .next t →
    (∀ l m, i = .driveLow l ∨ i = .release l → m ≠ l → t.drv m = s.drv m) ∧
    (∀ l n, i = .read l ∨ i = .delay n → t.drvScl = s.drvScl ∧ t.drvSda = s.drvSda) ∧
    (∀ l n, i = .driveLow l ∨ i = .release l ∨ i = .read l ∨ i = .delay n → t.p = s.p) ∧
    (∀ l n, i = .driveLow l ∨ i = .release l ∨ i = .delay n →
      t.sclIn = s.sclIn ∧ t.sdaIn = s.sdaIn ∧ t.draws = s.draws)

/-- 10_state R49, 40_open R100: in a state of a run, OPEN only ever releases lines, samples none, and
leaves the poll counter alone; RAISE_SCL leaves SDA, and BUSFREE both lines, as they are until an abort
release. -/
def Obligations.FrameOfOpenRaiseSclAndBusfree : Prop :=
  ∀ s t : State, s.Inv →
    (decode s.cur = .ok .openSession → exec .openSession s = .next t →
      (∀ l, t.drv l = s.drv l ∨ t.drv l = .released) ∧ t.p = s.p ∧ t.sclIn = s.sclIn ∧
      t.sdaIn = s.sdaIn) ∧
    (decode s.cur = .ok .raiseScl → exec .raiseScl s = .next t →
      (t.drvSda = s.drvSda ∨ (t.err = .clockHeld ∧ t.drvSda = .released)) ∧ t.sdaIn = s.sdaIn) ∧
    (decode s.cur = .ok .busfree → exec .busfree s = .next t →
      (t.drvScl = s.drvScl ∧ t.drvSda = s.drvSda) ∨
      (t.drvScl = .released ∧ t.drvSda = s.drvSda ∧ t.useq = .abort .busNotFree) ∨
      (t.drvScl = s.drvScl ∧ t.drvSda = .released ∧ t.err = .busNotFree))
end

