-- ==== Sys2Proof/Laws/State.lean ====
section
/-!
SUPPORT. One lemma per field and update, each true by unfolding the one update, so that no later proof
opens a record update.
-/

namespace Sys2Proof.Machine

/-! ## `record` (00_scope R17): the trace grows, nothing else changes -/

@[simp] theorem record_drvScl (e : Event) (s : State) : (record e s).drvScl = s.drvScl := rfl
@[simp] theorem record_drvSda (e : Event) (s : State) : (record e s).drvSda = s.drvSda := rfl
@[simp] theorem record_busy (e : Event) (s : State) : (record e s).busy = s.busy := rfl
@[simp] theorem record_opened (e : Event) (s : State) : (record e s).opened = s.opened := rfl
@[simp] theorem record_ack (e : Event) (s : State) : (record e s).ack = s.ack := rfl
@[simp] theorem record_level (e : Event) (s : State) : (record e s).level = s.level := rfl
@[simp] theorem record_err (e : Event) (s : State) : (record e s).err = s.err := rfl
@[simp] theorem record_cmdLost (e : Event) (s : State) : (record e s).cmdLost = s.cmdLost := rfl
@[simp] theorem record_rxdata (e : Event) (s : State) : (record e s).rxdata = s.rxdata := rfl
@[simp] theorem record_bitDelay (e : Event) (s : State) : (record e s).bitDelay = s.bitDelay := rfl
@[simp] theorem record_stretchTimeout (e : Event) (s : State) : (record e s).stretchTimeout = s.stretchTimeout := rfl
@[simp] theorem record_slaveAddr (e : Event) (s : State) : (record e s).slaveAddr = s.slaveAddr := rfl
@[simp] theorem record_cur (e : Event) (s : State) : (record e s).cur = s.cur := rfl
@[simp] theorem record_useq (e : Event) (s : State) : (record e s).useq = s.useq := rfl
@[simp] theorem record_sr (e : Event) (s : State) : (record e s).sr = s.sr := rfl
@[simp] theorem record_k (e : Event) (s : State) : (record e s).k = s.k := rfl
@[simp] theorem record_p (e : Event) (s : State) : (record e s).p = s.p := rfl
@[simp] theorem record_initReq (e : Event) (s : State) : (record e s).initReq = s.initReq := rfl
@[simp] theorem record_rst (e : Event) (s : State) : (record e s).rst = s.rst := rfl
@[simp] theorem record_ackLatch (e : Event) (s : State) : (record e s).ackLatch = s.ackLatch := rfl
@[simp] theorem record_sclIn (e : Event) (s : State) : (record e s).sclIn = s.sclIn := rfl
@[simp] theorem record_sdaIn (e : Event) (s : State) : (record e s).sdaIn = s.sdaIn := rfl
@[simp] theorem record_initIn (e : Event) (s : State) : (record e s).initIn = s.initIn := rfl
@[simp] theorem record_draws (e : Event) (s : State) : (record e s).draws = s.draws := rfl
@[simp] theorem record_sched (e : Event) (s : State) : (record e s).sched = s.sched := rfl
@[simp] theorem record_trace (e : Event) (s : State) : (record e s).trace = e :: s.trace := rfl
@[simp] theorem record_reads (e : Event) (s : State) : (record e s).reads = s.reads := rfl

/-! ## `State.setDrv` (10_state R22): one line's drive state changes, nothing else -/

@[simp] theorem State.setDrv_scl_drvScl (s : State) (d : Drive) : (s.setDrv .scl d).drvScl = d := rfl
@[simp] theorem State.setDrv_sda_drvScl (s : State) (d : Drive) : (s.setDrv .sda d).drvScl = s.drvScl := rfl
@[simp] theorem State.setDrv_sda_drvSda (s : State) (d : Drive) : (s.setDrv .sda d).drvSda = d := rfl
@[simp] theorem State.setDrv_scl_drvSda (s : State) (d : Drive) : (s.setDrv .scl d).drvSda = s.drvSda := rfl
@[simp] theorem State.setDrv_busy (s : State) (l : Line) (d : Drive) : (s.setDrv l d).busy = s.busy := by cases l <;> rfl
@[simp] theorem State.setDrv_opened (s : State) (l : Line) (d : Drive) : (s.setDrv l d).opened = s.opened := by cases l <;> rfl
@[simp] theorem State.setDrv_ack (s : State) (l : Line) (d : Drive) : (s.setDrv l d).ack = s.ack := by cases l <;> rfl
@[simp] theorem State.setDrv_level (s : State) (l : Line) (d : Drive) : (s.setDrv l d).level = s.level := by cases l <;> rfl
@[simp] theorem State.setDrv_err (s : State) (l : Line) (d : Drive) : (s.setDrv l d).err = s.err := by cases l <;> rfl
@[simp] theorem State.setDrv_cmdLost (s : State) (l : Line) (d : Drive) : (s.setDrv l d).cmdLost = s.cmdLost := by cases l <;> rfl
@[simp] theorem State.setDrv_rxdata (s : State) (l : Line) (d : Drive) : (s.setDrv l d).rxdata = s.rxdata := by cases l <;> rfl
@[simp] theorem State.setDrv_bitDelay (s : State) (l : Line) (d : Drive) : (s.setDrv l d).bitDelay = s.bitDelay := by cases l <;> rfl
@[simp] theorem State.setDrv_stretchTimeout (s : State) (l : Line) (d : Drive) : (s.setDrv l d).stretchTimeout = s.stretchTimeout := by cases l <;> rfl
@[simp] theorem State.setDrv_slaveAddr (s : State) (l : Line) (d : Drive) : (s.setDrv l d).slaveAddr = s.slaveAddr := by cases l <;> rfl
@[simp] theorem State.setDrv_cur (s : State) (l : Line) (d : Drive) : (s.setDrv l d).cur = s.cur := by cases l <;> rfl
@[simp] theorem State.setDrv_useq (s : State) (l : Line) (d : Drive) : (s.setDrv l d).useq = s.useq := by cases l <;> rfl
@[simp] theorem State.setDrv_sr (s : State) (l : Line) (d : Drive) : (s.setDrv l d).sr = s.sr := by cases l <;> rfl
@[simp] theorem State.setDrv_k (s : State) (l : Line) (d : Drive) : (s.setDrv l d).k = s.k := by cases l <;> rfl
@[simp] theorem State.setDrv_p (s : State) (l : Line) (d : Drive) : (s.setDrv l d).p = s.p := by cases l <;> rfl
@[simp] theorem State.setDrv_initReq (s : State) (l : Line) (d : Drive) : (s.setDrv l d).initReq = s.initReq := by cases l <;> rfl
@[simp] theorem State.setDrv_rst (s : State) (l : Line) (d : Drive) : (s.setDrv l d).rst = s.rst := by cases l <;> rfl
@[simp] theorem State.setDrv_ackLatch (s : State) (l : Line) (d : Drive) : (s.setDrv l d).ackLatch = s.ackLatch := by cases l <;> rfl
@[simp] theorem State.setDrv_sclIn (s : State) (l : Line) (d : Drive) : (s.setDrv l d).sclIn = s.sclIn := by cases l <;> rfl
@[simp] theorem State.setDrv_sdaIn (s : State) (l : Line) (d : Drive) : (s.setDrv l d).sdaIn = s.sdaIn := by cases l <;> rfl
@[simp] theorem State.setDrv_initIn (s : State) (l : Line) (d : Drive) : (s.setDrv l d).initIn = s.initIn := by cases l <;> rfl
@[simp] theorem State.setDrv_draws (s : State) (l : Line) (d : Drive) : (s.setDrv l d).draws = s.draws := by cases l <;> rfl
@[simp] theorem State.setDrv_sched (s : State) (l : Line) (d : Drive) : (s.setDrv l d).sched = s.sched := by cases l <;> rfl
@[simp] theorem State.setDrv_trace (s : State) (l : Line) (d : Drive) : (s.setDrv l d).trace = s.trace := by cases l <;> rfl
@[simp] theorem State.setDrv_reads (s : State) (l : Line) (d : Drive) : (s.setDrv l d).reads = s.reads := by cases l <;> rfl

/-- A read after a write of the same line's drive state gives the value written. -/
@[simp] theorem State.drv_setDrv_same (s : State) (l : Line) (d : Drive) : (s.setDrv l d).drv l = d := by
  cases l <;> rfl

/-- A write of one line's drive state leaves the other line alone. -/
theorem State.drv_setDrv_other (s : State) {l m : Line} (d : Drive) (h : m ≠ l) :
    (s.setDrv l d).drv m = s.drv m := by
  cases l <;> cases m <;> first | rfl | exact absurd rfl h

/-! ## `State.setLineIn` (log 3): one line's coming levels change, nothing else -/

@[simp] theorem State.setLineIn_drvScl (s : State) (l : Line) (vs : List Level) : (s.setLineIn l vs).drvScl = s.drvScl := by cases l <;> rfl
@[simp] theorem State.setLineIn_drvSda (s : State) (l : Line) (vs : List Level) : (s.setLineIn l vs).drvSda = s.drvSda := by cases l <;> rfl
@[simp] theorem State.setLineIn_busy (s : State) (l : Line) (vs : List Level) : (s.setLineIn l vs).busy = s.busy := by cases l <;> rfl
@[simp] theorem State.setLineIn_opened (s : State) (l : Line) (vs : List Level) : (s.setLineIn l vs).opened = s.opened := by cases l <;> rfl
@[simp] theorem State.setLineIn_ack (s : State) (l : Line) (vs : List Level) : (s.setLineIn l vs).ack = s.ack := by cases l <;> rfl
@[simp] theorem State.setLineIn_level (s : State) (l : Line) (vs : List Level) : (s.setLineIn l vs).level = s.level := by cases l <;> rfl
@[simp] theorem State.setLineIn_err (s : State) (l : Line) (vs : List Level) : (s.setLineIn l vs).err = s.err := by cases l <;> rfl
@[simp] theorem State.setLineIn_cmdLost (s : State) (l : Line) (vs : List Level) : (s.setLineIn l vs).cmdLost = s.cmdLost := by cases l <;> rfl
@[simp] theorem State.setLineIn_rxdata (s : State) (l : Line) (vs : List Level) : (s.setLineIn l vs).rxdata = s.rxdata := by cases l <;> rfl
@[simp] theorem State.setLineIn_bitDelay (s : State) (l : Line) (vs : List Level) : (s.setLineIn l vs).bitDelay = s.bitDelay := by cases l <;> rfl
@[simp] theorem State.setLineIn_stretchTimeout (s : State) (l : Line) (vs : List Level) : (s.setLineIn l vs).stretchTimeout = s.stretchTimeout := by cases l <;> rfl
@[simp] theorem State.setLineIn_slaveAddr (s : State) (l : Line) (vs : List Level) : (s.setLineIn l vs).slaveAddr = s.slaveAddr := by cases l <;> rfl
@[simp] theorem State.setLineIn_cur (s : State) (l : Line) (vs : List Level) : (s.setLineIn l vs).cur = s.cur := by cases l <;> rfl
@[simp] theorem State.setLineIn_useq (s : State) (l : Line) (vs : List Level) : (s.setLineIn l vs).useq = s.useq := by cases l <;> rfl
@[simp] theorem State.setLineIn_sr (s : State) (l : Line) (vs : List Level) : (s.setLineIn l vs).sr = s.sr := by cases l <;> rfl
@[simp] theorem State.setLineIn_k (s : State) (l : Line) (vs : List Level) : (s.setLineIn l vs).k = s.k := by cases l <;> rfl
@[simp] theorem State.setLineIn_p (s : State) (l : Line) (vs : List Level) : (s.setLineIn l vs).p = s.p := by cases l <;> rfl
@[simp] theorem State.setLineIn_initReq (s : State) (l : Line) (vs : List Level) : (s.setLineIn l vs).initReq = s.initReq := by cases l <;> rfl
@[simp] theorem State.setLineIn_rst (s : State) (l : Line) (vs : List Level) : (s.setLineIn l vs).rst = s.rst := by cases l <;> rfl
@[simp] theorem State.setLineIn_ackLatch (s : State) (l : Line) (vs : List Level) : (s.setLineIn l vs).ackLatch = s.ackLatch := by cases l <;> rfl
@[simp] theorem State.setLineIn_scl_sclIn (s : State) (vs : List Level) : (s.setLineIn .scl vs).sclIn = vs := rfl
@[simp] theorem State.setLineIn_sda_sclIn (s : State) (vs : List Level) : (s.setLineIn .sda vs).sclIn = s.sclIn := rfl
@[simp] theorem State.setLineIn_sda_sdaIn (s : State) (vs : List Level) : (s.setLineIn .sda vs).sdaIn = vs := rfl
@[simp] theorem State.setLineIn_scl_sdaIn (s : State) (vs : List Level) : (s.setLineIn .scl vs).sdaIn = s.sdaIn := rfl
@[simp] theorem State.setLineIn_initIn (s : State) (l : Line) (vs : List Level) : (s.setLineIn l vs).initIn = s.initIn := by cases l <;> rfl
@[simp] theorem State.setLineIn_draws (s : State) (l : Line) (vs : List Level) : (s.setLineIn l vs).draws = s.draws := by cases l <;> rfl
@[simp] theorem State.setLineIn_sched (s : State) (l : Line) (vs : List Level) : (s.setLineIn l vs).sched = s.sched := by cases l <;> rfl
@[simp] theorem State.setLineIn_trace (s : State) (l : Line) (vs : List Level) : (s.setLineIn l vs).trace = s.trace := by cases l <;> rfl
@[simp] theorem State.setLineIn_reads (s : State) (l : Line) (vs : List Level) : (s.setLineIn l vs).reads = s.reads := by cases l <;> rfl

/-! ## `endCommand` (60_exceptions R183): ERR, BUSY and `useq` are written, nothing else -/

@[simp] theorem endCommand_drvScl (e : ErrCode) (s : State) : (endCommand e s).drvScl = s.drvScl := rfl
@[simp] theorem endCommand_drvSda (e : ErrCode) (s : State) : (endCommand e s).drvSda = s.drvSda := rfl
@[simp] theorem endCommand_busy (e : ErrCode) (s : State) : (endCommand e s).busy = false := rfl
@[simp] theorem endCommand_opened (e : ErrCode) (s : State) : (endCommand e s).opened = s.opened := rfl
@[simp] theorem endCommand_ack (e : ErrCode) (s : State) : (endCommand e s).ack = s.ack := rfl
@[simp] theorem endCommand_level (e : ErrCode) (s : State) : (endCommand e s).level = s.level := rfl
@[simp] theorem endCommand_err (e : ErrCode) (s : State) : (endCommand e s).err = e := rfl
@[simp] theorem endCommand_cmdLost (e : ErrCode) (s : State) : (endCommand e s).cmdLost = s.cmdLost := rfl
@[simp] theorem endCommand_rxdata (e : ErrCode) (s : State) : (endCommand e s).rxdata = s.rxdata := rfl
@[simp] theorem endCommand_bitDelay (e : ErrCode) (s : State) : (endCommand e s).bitDelay = s.bitDelay := rfl
@[simp] theorem endCommand_stretchTimeout (e : ErrCode) (s : State) : (endCommand e s).stretchTimeout = s.stretchTimeout := rfl
@[simp] theorem endCommand_slaveAddr (e : ErrCode) (s : State) : (endCommand e s).slaveAddr = s.slaveAddr := rfl
@[simp] theorem endCommand_cur (e : ErrCode) (s : State) : (endCommand e s).cur = s.cur := rfl
@[simp] theorem endCommand_useq (e : ErrCode) (s : State) : (endCommand e s).useq = .idle := rfl
@[simp] theorem endCommand_sr (e : ErrCode) (s : State) : (endCommand e s).sr = s.sr := rfl
@[simp] theorem endCommand_k (e : ErrCode) (s : State) : (endCommand e s).k = s.k := rfl
@[simp] theorem endCommand_p (e : ErrCode) (s : State) : (endCommand e s).p = s.p := rfl
@[simp] theorem endCommand_initReq (e : ErrCode) (s : State) : (endCommand e s).initReq = s.initReq := rfl
@[simp] theorem endCommand_rst (e : ErrCode) (s : State) : (endCommand e s).rst = s.rst := rfl
@[simp] theorem endCommand_ackLatch (e : ErrCode) (s : State) : (endCommand e s).ackLatch = s.ackLatch := rfl
@[simp] theorem endCommand_sclIn (e : ErrCode) (s : State) : (endCommand e s).sclIn = s.sclIn := rfl
@[simp] theorem endCommand_sdaIn (e : ErrCode) (s : State) : (endCommand e s).sdaIn = s.sdaIn := rfl
@[simp] theorem endCommand_initIn (e : ErrCode) (s : State) : (endCommand e s).initIn = s.initIn := rfl
@[simp] theorem endCommand_draws (e : ErrCode) (s : State) : (endCommand e s).draws = s.draws := rfl
@[simp] theorem endCommand_sched (e : ErrCode) (s : State) : (endCommand e s).sched = s.sched := rfl
@[simp] theorem endCommand_trace (e : ErrCode) (s : State) : (endCommand e s).trace = s.trace := rfl
@[simp] theorem endCommand_reads (e : ErrCode) (s : State) : (endCommand e s).reads = s.reads := rfl

/-! ## `acceptCommand` (20_memory R56): `cur`, ERR, BUSY and `useq` are written, nothing else -/

@[simp] theorem acceptCommand_drvScl (v : Word) (s : State) : (acceptCommand v s).drvScl = s.drvScl := rfl
@[simp] theorem acceptCommand_drvSda (v : Word) (s : State) : (acceptCommand v s).drvSda = s.drvSda := rfl
@[simp] theorem acceptCommand_busy (v : Word) (s : State) : (acceptCommand v s).busy = true := rfl
@[simp] theorem acceptCommand_opened (v : Word) (s : State) : (acceptCommand v s).opened = s.opened := rfl
@[simp] theorem acceptCommand_ack (v : Word) (s : State) : (acceptCommand v s).ack = s.ack := rfl
@[simp] theorem acceptCommand_level (v : Word) (s : State) : (acceptCommand v s).level = s.level := rfl
@[simp] theorem acceptCommand_err (v : Word) (s : State) : (acceptCommand v s).err = .ok := rfl
@[simp] theorem acceptCommand_cmdLost (v : Word) (s : State) : (acceptCommand v s).cmdLost = s.cmdLost := rfl
@[simp] theorem acceptCommand_rxdata (v : Word) (s : State) : (acceptCommand v s).rxdata = s.rxdata := rfl
@[simp] theorem acceptCommand_bitDelay (v : Word) (s : State) : (acceptCommand v s).bitDelay = s.bitDelay := rfl
@[simp] theorem acceptCommand_stretchTimeout (v : Word) (s : State) : (acceptCommand v s).stretchTimeout = s.stretchTimeout := rfl
@[simp] theorem acceptCommand_slaveAddr (v : Word) (s : State) : (acceptCommand v s).slaveAddr = s.slaveAddr := rfl
@[simp] theorem acceptCommand_cur (v : Word) (s : State) : (acceptCommand v s).cur = v := rfl
@[simp] theorem acceptCommand_useq (v : Word) (s : State) : (acceptCommand v s).useq = .first := rfl
@[simp] theorem acceptCommand_sr (v : Word) (s : State) : (acceptCommand v s).sr = s.sr := rfl
@[simp] theorem acceptCommand_k (v : Word) (s : State) : (acceptCommand v s).k = s.k := rfl
@[simp] theorem acceptCommand_p (v : Word) (s : State) : (acceptCommand v s).p = s.p := rfl
@[simp] theorem acceptCommand_initReq (v : Word) (s : State) : (acceptCommand v s).initReq = s.initReq := rfl
@[simp] theorem acceptCommand_rst (v : Word) (s : State) : (acceptCommand v s).rst = s.rst := rfl
@[simp] theorem acceptCommand_ackLatch (v : Word) (s : State) : (acceptCommand v s).ackLatch = s.ackLatch := rfl
@[simp] theorem acceptCommand_sclIn (v : Word) (s : State) : (acceptCommand v s).sclIn = s.sclIn := rfl
@[simp] theorem acceptCommand_sdaIn (v : Word) (s : State) : (acceptCommand v s).sdaIn = s.sdaIn := rfl
@[simp] theorem acceptCommand_initIn (v : Word) (s : State) : (acceptCommand v s).initIn = s.initIn := rfl
@[simp] theorem acceptCommand_draws (v : Word) (s : State) : (acceptCommand v s).draws = s.draws := rfl
@[simp] theorem acceptCommand_sched (v : Word) (s : State) : (acceptCommand v s).sched = s.sched := rfl
@[simp] theorem acceptCommand_trace (v : Word) (s : State) : (acceptCommand v s).trace = s.trace := rfl
@[simp] theorem acceptCommand_reads (v : Word) (s : State) : (acceptCommand v s).reads = s.reads := rfl

/-! ## `holdReset` (70_reset_and_hazards R200): the block's fields are those of reset, the others stay -/

@[simp] theorem holdReset_drvScl (s : State) : (holdReset s).drvScl = State.reset.drvScl := rfl
@[simp] theorem holdReset_drvSda (s : State) : (holdReset s).drvSda = State.reset.drvSda := rfl
@[simp] theorem holdReset_busy (s : State) : (holdReset s).busy = State.reset.busy := rfl
@[simp] theorem holdReset_opened (s : State) : (holdReset s).opened = State.reset.opened := rfl
@[simp] theorem holdReset_ack (s : State) : (holdReset s).ack = State.reset.ack := rfl
@[simp] theorem holdReset_level (s : State) : (holdReset s).level = State.reset.level := rfl
@[simp] theorem holdReset_err (s : State) : (holdReset s).err = State.reset.err := rfl
@[simp] theorem holdReset_cmdLost (s : State) : (holdReset s).cmdLost = State.reset.cmdLost := rfl
@[simp] theorem holdReset_rxdata (s : State) : (holdReset s).rxdata = State.reset.rxdata := rfl
@[simp] theorem holdReset_bitDelay (s : State) : (holdReset s).bitDelay = State.reset.bitDelay := rfl
@[simp] theorem holdReset_stretchTimeout (s : State) : (holdReset s).stretchTimeout = State.reset.stretchTimeout := rfl
@[simp] theorem holdReset_slaveAddr (s : State) : (holdReset s).slaveAddr = State.reset.slaveAddr := rfl
@[simp] theorem holdReset_cur (s : State) : (holdReset s).cur = State.reset.cur := rfl
@[simp] theorem holdReset_useq (s : State) : (holdReset s).useq = State.reset.useq := rfl
@[simp] theorem holdReset_sr (s : State) : (holdReset s).sr = State.reset.sr := rfl
@[simp] theorem holdReset_k (s : State) : (holdReset s).k = State.reset.k := rfl
@[simp] theorem holdReset_p (s : State) : (holdReset s).p = State.reset.p := rfl
@[simp] theorem holdReset_initReq (s : State) : (holdReset s).initReq = State.reset.initReq := rfl
@[simp] theorem holdReset_ackLatch (s : State) : (holdReset s).ackLatch = State.reset.ackLatch := rfl
@[simp] theorem holdReset_rst (s : State) : (holdReset s).rst = s.rst := rfl
@[simp] theorem holdReset_sclIn (s : State) : (holdReset s).sclIn = s.sclIn := rfl
@[simp] theorem holdReset_sdaIn (s : State) : (holdReset s).sdaIn = s.sdaIn := rfl
@[simp] theorem holdReset_initIn (s : State) : (holdReset s).initIn = s.initIn := rfl
@[simp] theorem holdReset_draws (s : State) : (holdReset s).draws = s.draws := rfl
@[simp] theorem holdReset_sched (s : State) : (holdReset s).sched = s.sched := rfl
@[simp] theorem holdReset_trace (s : State) : (holdReset s).trace = s.trace := rfl
@[simp] theorem holdReset_reads (s : State) : (holdReset s).reads = s.reads := rfl

/-- A state held in reset is held already. -/
@[simp] theorem holdReset_holdReset (s : State) : holdReset (holdReset s) = holdReset s := rfl

/-! ## `assertReset` and `releaseReset` (70_reset_and_hazards R200) -/

/-- An assertion while `rst` is released: the state of reset, and one event. -/
theorem assertReset_of_released {s : State} (h : s.rst = false) :
    assertReset s = record .reset { holdReset s with rst := true } := by
  simp [assertReset, h]

/-- An assertion while `rst` is asserted changes nothing. -/
theorem assertReset_of_asserted {s : State} (h : s.rst = true) : assertReset s = s := by
  simp [assertReset, h]

@[simp] theorem assertReset_rst (s : State) : (assertReset s).rst = true := by
  cases h : s.rst <;> simp [assertReset, h]
@[simp] theorem assertReset_sched (s : State) : (assertReset s).sched = s.sched := by
  cases h : s.rst <;> simp [assertReset, h]

@[simp] theorem releaseReset_drvScl (s : State) : (releaseReset s).drvScl = s.drvScl := rfl
@[simp] theorem releaseReset_drvSda (s : State) : (releaseReset s).drvSda = s.drvSda := rfl
@[simp] theorem releaseReset_busy (s : State) : (releaseReset s).busy = s.busy := rfl
@[simp] theorem releaseReset_opened (s : State) : (releaseReset s).opened = s.opened := rfl
@[simp] theorem releaseReset_ack (s : State) : (releaseReset s).ack = s.ack := rfl
@[simp] theorem releaseReset_level (s : State) : (releaseReset s).level = s.level := rfl
@[simp] theorem releaseReset_err (s : State) : (releaseReset s).err = s.err := rfl
@[simp] theorem releaseReset_cmdLost (s : State) : (releaseReset s).cmdLost = s.cmdLost := rfl
@[simp] theorem releaseReset_rxdata (s : State) : (releaseReset s).rxdata = s.rxdata := rfl
@[simp] theorem releaseReset_bitDelay (s : State) : (releaseReset s).bitDelay = s.bitDelay := rfl
@[simp] theorem releaseReset_stretchTimeout (s : State) : (releaseReset s).stretchTimeout = s.stretchTimeout := rfl
@[simp] theorem releaseReset_slaveAddr (s : State) : (releaseReset s).slaveAddr = s.slaveAddr := rfl
@[simp] theorem releaseReset_cur (s : State) : (releaseReset s).cur = s.cur := rfl
@[simp] theorem releaseReset_useq (s : State) : (releaseReset s).useq = s.useq := rfl
@[simp] theorem releaseReset_sr (s : State) : (releaseReset s).sr = s.sr := rfl
@[simp] theorem releaseReset_k (s : State) : (releaseReset s).k = s.k := rfl
@[simp] theorem releaseReset_p (s : State) : (releaseReset s).p = s.p := rfl
@[simp] theorem releaseReset_initReq (s : State) : (releaseReset s).initReq = s.initReq := rfl
@[simp] theorem releaseReset_ackLatch (s : State) : (releaseReset s).ackLatch = s.ackLatch := rfl
@[simp] theorem releaseReset_sclIn (s : State) : (releaseReset s).sclIn = s.sclIn := rfl
@[simp] theorem releaseReset_sdaIn (s : State) : (releaseReset s).sdaIn = s.sdaIn := rfl
@[simp] theorem releaseReset_initIn (s : State) : (releaseReset s).initIn = s.initIn := rfl
@[simp] theorem releaseReset_draws (s : State) : (releaseReset s).draws = s.draws := rfl
@[simp] theorem releaseReset_sched (s : State) : (releaseReset s).sched = s.sched := rfl
@[simp] theorem releaseReset_trace (s : State) : (releaseReset s).trace = s.trace := rfl
@[simp] theorem releaseReset_reads (s : State) : (releaseReset s).reads = s.reads := rfl
@[simp] theorem releaseReset_rst (s : State) : (releaseReset s).rst = false := rfl

end Sys2Proof.Machine
end

