-- ==== Sys2Proof/Laws/Ops.lean ====
section
/-!
SUPPORT. One lemma per shared operation that says once everything it can do. Proofs about commands cite
these and leave the operations folded.
-/

namespace Sys2Proof.Machine

/-! ## Lines, draws and samples -/

/-- Reading a driven line (00_scope R16): Low, and no draw is taken. -/
@[simp] theorem lineLevel_driven {l : Line} {s : State} (h : s.drv l = .drivingLow) :
    lineLevel l s = (.low, s) := by
  simp [lineLevel, h]

/-- Reading a released line (00_scope R16): a draw. -/
@[simp] theorem lineLevel_released {l : Line} {s : State} (h : s.drv l = .released) :
    lineLevel l s = drawLevel l s := by
  simp [lineLevel, h]

/-- A draw from a list that presents `v` next gives `v` and moves the list on. -/
theorem drawLevel_cons {l : Line} {s : State} {v : Level} {vs : List Level} (h : s.lineIn l = v :: vs) :
    drawLevel l s = (v, s.setLineIn l vs) := by
  simp [drawLevel, h]

/-- A draw from an empty list is the free value of the draw's number. -/
theorem drawLevel_nil {l : Line} {s : State} (h : s.lineIn l = []) :
    drawLevel l s = (Config.envLevel l s.draws, { s with draws := s.draws + 1 }) := by
  simp [drawLevel, h]

/-- A draw changes the input lists and the draw counter and nothing else. -/
theorem drawLevel_frame (l : Line) (s : State) :
    ∃ ci di n, (drawLevel l s).2 = { s with sclIn := ci, sdaIn := di, draws := n } := by
  unfold drawLevel
  cases l <;> split <;> exact ⟨_, _, _, rfl⟩

/-- The same for the level of a line in either drive state. -/
theorem lineLevel_frame (l : Line) (s : State) :
    ∃ ci di n, (lineLevel l s).2 = { s with sclIn := ci, sdaIn := di, draws := n } := by
  cases h : s.drv l with
  | drivingLow => exact ⟨_, _, _, by rw [lineLevel_driven h]⟩
  | released => rw [lineLevel_released h]; exact drawLevel_frame l s

/-- SAMPLE (00_scope R13) changes the input lists and the draw counter and adds its event. -/
theorem sample_frame (l : Line) (s : State) :
    ∃ ci di n, (sample l s).2 =
      { s with sclIn := ci, sdaIn := di, draws := n, trace := .sample l (sample l s).1 :: s.trace } := by
  obtain ⟨ci, di, n, h⟩ := lineLevel_frame l s
  exact ⟨ci, di, n, by simp [sample, record, h]⟩

/-- SAMPLE2 (00_scope R14) changes the input lists and the draw counter and adds its event. -/
theorem sample2_frame (s : State) :
    ∃ ci di n, (sample2 s).2 =
      { s with sclIn := ci, sdaIn := di, draws := n,
               trace := .sample2 (sample2 s).1.1 (sample2 s).1.2 :: s.trace } := by
  obtain ⟨ci, di, n, h⟩ := lineLevel_frame .scl s
  obtain ⟨ci', di', n', h'⟩ := lineLevel_frame .sda (lineLevel .scl s).2
  have h2 : (lineLevel .sda (lineLevel .scl s).2).2 =
      { s with sclIn := ci', sdaIn := di', draws := n' } := by rw [h', h]
  exact ⟨ci', di', n', by simp only [sample2, record, h2]⟩

/-- A line the block drives samples Low (00_scope R16). -/
theorem sample_driven {l : Line} {s : State} (h : s.drv l = .drivingLow) :
    sample l s = (.low, record (.sample l .low) s) := by
  simp [sample, h]

/-- A released line samples what the environment presents next (00_scope R16). -/
theorem sample_released {l : Line} {s : State} {v : Level} {vs : List Level}
    (hd : s.drv l = .released) (hv : s.lineIn l = v :: vs) :
    sample l s = (v, record (.sample l v) (s.setLineIn l vs)) := by
  simp [sample, hd, drawLevel_cons hv]

/-- INIT (40_open R101) changes the answers to come, the draw counter and the trace; `init_req` is low
again after it. -/
theorem initRequest_frame (s : State) :
    ∃ bs n, (initRequest s).2 =
      { s with initReq := false, initIn := bs, draws := n,
               trace := .init (initRequest s).1 :: s.trace } := by
  unfold initRequest drawInit record
  dsimp only
  split <;> exact ⟨_, _, rfl⟩

/-- INIT (40_open R101) in terms of the answer drawn. -/
theorem initRequest_eq {s u : State} {b : Bool} (h : drawInit s = (b, u)) :
    initRequest s = (b, { u with initReq := false, trace := .init b :: s.trace }) := by
  unfold drawInit at h
  unfold initRequest drawInit record
  dsimp only
  split at h <;> rename_i hi <;> cases h <;> simp [hi]

/-! ## Raising and ending -/

/-- `raise e` (60_exceptions R183) for an error without abort release ends the command at once. -/
theorem raiseError_ends {e : ErrCode} (s : State) (h : e.aborts = false) :
    raiseError e s = endCommand e s := by
  simp [raiseError, h]

/-- `raise e` (60_exceptions R183, R184) for BusNotFree and ClockHeld starts the abort release. -/
theorem raiseError_aborts {e : ErrCode} (s : State) (h : e.aborts = true) :
    raiseError e s = { release .scl s with useq := .abort e } := by
  simp [raiseError, h]

/-! ## The micro-sequencer -/

/-- Every arm of `exec` runs its command on the one micro-sequencer. -/
theorem exec_eq_runCommand (i : Instr) (s : State) : exec i s = runCommand (commandOf i) s := by
  cases i <;> rfl

/-- Everything one entry of a list can lead to. -/
theorem microStep_cases {c : Command} {n : Nat} {s t : State} (h : microStep c n s = .next t) :
    ∃ m u, c.micros[n]? = some m ∧
      ((runMicro m s = (.advance, u) ∧ n + 1 < c.micros.length ∧ t = { u with useq := .pos (n + 1) }) ∨
       (runMicro m s = (.advance, u) ∧ ¬ n + 1 < c.micros.length ∧ t = complete (c.finish u)) ∨
       (runMicro m s = (.stay, u) ∧ t = { u with useq := .pos n }) ∨
       (runMicro m s = (.again, u) ∧ t = { u with useq := .pos 0 }) ∨
       ∃ e, runMicro m s = (.fail e, u) ∧ t = raiseError e u) := by
  unfold microStep at h
  split at h
  · cases h
  · rename_i m hm
    split at h <;> rename_i u hu
    · split at h <;> rename_i hn <;> cases h
      · exact ⟨m, u, hm, .inl ⟨hu, hn, rfl⟩⟩
      · exact ⟨m, u, hm, .inr (.inl ⟨hu, hn, rfl⟩)⟩
    · cases h; exact ⟨m, u, hm, .inr (.inr (.inl ⟨hu, rfl⟩))⟩
    · cases h; exact ⟨m, u, hm, .inr (.inr (.inr (.inl ⟨hu, rfl⟩)))⟩
    · cases h; exact ⟨m, u, hm, .inr (.inr (.inr (.inr ⟨_, hu, rfl⟩)))⟩

/-- The sequencer answers a next state at every position that its list has. -/
theorem microStep_answers {c : Command} {n : Nat} (s : State) (h : n < c.micros.length) :
    ∃ t, microStep c n s = .next t := by
  simp only [microStep, List.getElem?_eq_getElem h]
  split
  · split <;> exact ⟨_, rfl⟩
  all_goals exact ⟨_, rfl⟩

/-- Everything one controller step of a command can be. -/
theorem runCommand_cases {c : Command} {s t : State} (h : runCommand c s = .next t) :
    (s.useq = .first ∧ ∃ e, c.check s = some e ∧ t = raiseError e s) ∨
    (s.useq = .first ∧ c.check s = none ∧ microStep c 0 (c.prepare s) = .next t) ∨
    (∃ n, s.useq = .pos n ∧ microStep c n s = .next t) ∨
    (∃ e, s.useq = .abort e ∧ t = finishAbort e s) := by
  unfold runCommand at h
  split at h <;> rename_i hu
  · cases h
  · split at h <;> rename_i hc
    · cases h; exact .inl ⟨hu, _, hc, rfl⟩
    · exact .inr (.inl ⟨hu, hc, h⟩)
  · exact .inr (.inr (.inl ⟨_, hu, h⟩))
  · cases h; exact .inr (.inr (.inr ⟨_, hu, rfl⟩))

/-! ## Runs of several controller steps -/

@[simp] theorem execFor_zero (i : Instr) (s : State) : execFor i 0 s = .next s := rfl

/-- A run goes on from the state its first step answers. -/
theorem execFor_succ {i : Instr} {s t : State} (n : Nat) (h : exec i s = .next t) :
    execFor i (n + 1) s = execFor i n t := by
  simp [execFor, h]

/-- Two runs one after the other are one run. -/
theorem execFor_add {i : Instr} {s t : State} (m n : Nat) (h : execFor i m s = .next t) :
    execFor i (m + n) s = execFor i n t := by
  induction m generalizing s with
  | zero => simp at h; subst h; simp
  | succ m ih =>
    rw [Nat.succ_add]
    simp only [execFor] at h ⊢
    split at h
    · exact ih h
    · cases h
    · cases h

end Sys2Proof.Machine
end

