-- ==== Sys2Proof/Laws/Micro.lean ====
section
/-!
SUPPORT. What samples, INIT and one entry of a micro-operation list leave unchanged, field by field: read
off the frame lemmas of Laws/Ops.lean once, so that proofs about commands never open a sample.
-/

namespace Sys2Proof.Machine


/-! ## `lineLevel`: the input lists, the draw counter and the trace apart, nothing changes -/

@[simp] theorem lineLevel_drvScl (l : Line) (s : State) : (lineLevel l s).2.drvScl = s.drvScl := by
  obtain ⟨_, _, _, h⟩ := lineLevel_frame l s; rw [h]
@[simp] theorem lineLevel_drvSda (l : Line) (s : State) : (lineLevel l s).2.drvSda = s.drvSda := by
  obtain ⟨_, _, _, h⟩ := lineLevel_frame l s; rw [h]
@[simp] theorem lineLevel_busy (l : Line) (s : State) : (lineLevel l s).2.busy = s.busy := by
  obtain ⟨_, _, _, h⟩ := lineLevel_frame l s; rw [h]
@[simp] theorem lineLevel_opened (l : Line) (s : State) : (lineLevel l s).2.opened = s.opened := by
  obtain ⟨_, _, _, h⟩ := lineLevel_frame l s; rw [h]
@[simp] theorem lineLevel_ack (l : Line) (s : State) : (lineLevel l s).2.ack = s.ack := by
  obtain ⟨_, _, _, h⟩ := lineLevel_frame l s; rw [h]
@[simp] theorem lineLevel_level (l : Line) (s : State) : (lineLevel l s).2.level = s.level := by
  obtain ⟨_, _, _, h⟩ := lineLevel_frame l s; rw [h]
@[simp] theorem lineLevel_err (l : Line) (s : State) : (lineLevel l s).2.err = s.err := by
  obtain ⟨_, _, _, h⟩ := lineLevel_frame l s; rw [h]
@[simp] theorem lineLevel_cmdLost (l : Line) (s : State) : (lineLevel l s).2.cmdLost = s.cmdLost := by
  obtain ⟨_, _, _, h⟩ := lineLevel_frame l s; rw [h]
@[simp] theorem lineLevel_rxdata (l : Line) (s : State) : (lineLevel l s).2.rxdata = s.rxdata := by
  obtain ⟨_, _, _, h⟩ := lineLevel_frame l s; rw [h]
@[simp] theorem lineLevel_bitDelay (l : Line) (s : State) : (lineLevel l s).2.bitDelay = s.bitDelay := by
  obtain ⟨_, _, _, h⟩ := lineLevel_frame l s; rw [h]
@[simp] theorem lineLevel_stretchTimeout (l : Line) (s : State) : (lineLevel l s).2.stretchTimeout = s.stretchTimeout := by
  obtain ⟨_, _, _, h⟩ := lineLevel_frame l s; rw [h]
@[simp] theorem lineLevel_slaveAddr (l : Line) (s : State) : (lineLevel l s).2.slaveAddr = s.slaveAddr := by
  obtain ⟨_, _, _, h⟩ := lineLevel_frame l s; rw [h]
@[simp] theorem lineLevel_cur (l : Line) (s : State) : (lineLevel l s).2.cur = s.cur := by
  obtain ⟨_, _, _, h⟩ := lineLevel_frame l s; rw [h]
@[simp] theorem lineLevel_rst (l : Line) (s : State) : (lineLevel l s).2.rst = s.rst := by
  obtain ⟨_, _, _, h⟩ := lineLevel_frame l s; rw [h]
@[simp] theorem lineLevel_useq (l : Line) (s : State) : (lineLevel l s).2.useq = s.useq := by
  obtain ⟨_, _, _, h⟩ := lineLevel_frame l s; rw [h]
@[simp] theorem lineLevel_sr (l : Line) (s : State) : (lineLevel l s).2.sr = s.sr := by
  obtain ⟨_, _, _, h⟩ := lineLevel_frame l s; rw [h]
@[simp] theorem lineLevel_k (l : Line) (s : State) : (lineLevel l s).2.k = s.k := by
  obtain ⟨_, _, _, h⟩ := lineLevel_frame l s; rw [h]
@[simp] theorem lineLevel_p (l : Line) (s : State) : (lineLevel l s).2.p = s.p := by
  obtain ⟨_, _, _, h⟩ := lineLevel_frame l s; rw [h]
@[simp] theorem lineLevel_initReq (l : Line) (s : State) : (lineLevel l s).2.initReq = s.initReq := by
  obtain ⟨_, _, _, h⟩ := lineLevel_frame l s; rw [h]
@[simp] theorem lineLevel_ackLatch (l : Line) (s : State) : (lineLevel l s).2.ackLatch = s.ackLatch := by
  obtain ⟨_, _, _, h⟩ := lineLevel_frame l s; rw [h]
@[simp] theorem lineLevel_initIn (l : Line) (s : State) : (lineLevel l s).2.initIn = s.initIn := by
  obtain ⟨_, _, _, h⟩ := lineLevel_frame l s; rw [h]
@[simp] theorem lineLevel_sched (l : Line) (s : State) : (lineLevel l s).2.sched = s.sched := by
  obtain ⟨_, _, _, h⟩ := lineLevel_frame l s; rw [h]
@[simp] theorem lineLevel_trace (l : Line) (s : State) : (lineLevel l s).2.trace = s.trace := by
  obtain ⟨_, _, _, h⟩ := lineLevel_frame l s; rw [h]
@[simp] theorem lineLevel_reads (l : Line) (s : State) : (lineLevel l s).2.reads = s.reads := by
  obtain ⟨_, _, _, h⟩ := lineLevel_frame l s; rw [h]

/-! ## `sample`: the input lists, the draw counter and the trace apart, nothing changes -/

@[simp] theorem sample_drvScl (l : Line) (s : State) : (sample l s).2.drvScl = s.drvScl := by
  obtain ⟨_, _, _, h⟩ := sample_frame l s; rw [h]
@[simp] theorem sample_drvSda (l : Line) (s : State) : (sample l s).2.drvSda = s.drvSda := by
  obtain ⟨_, _, _, h⟩ := sample_frame l s; rw [h]
@[simp] theorem sample_busy (l : Line) (s : State) : (sample l s).2.busy = s.busy := by
  obtain ⟨_, _, _, h⟩ := sample_frame l s; rw [h]
@[simp] theorem sample_opened (l : Line) (s : State) : (sample l s).2.opened = s.opened := by
  obtain ⟨_, _, _, h⟩ := sample_frame l s; rw [h]
@[simp] theorem sample_ack (l : Line) (s : State) : (sample l s).2.ack = s.ack := by
  obtain ⟨_, _, _, h⟩ := sample_frame l s; rw [h]
@[simp] theorem sample_level (l : Line) (s : State) : (sample l s).2.level = s.level := by
  obtain ⟨_, _, _, h⟩ := sample_frame l s; rw [h]
@[simp] theorem sample_err (l : Line) (s : State) : (sample l s).2.err = s.err := by
  obtain ⟨_, _, _, h⟩ := sample_frame l s; rw [h]
@[simp] theorem sample_cmdLost (l : Line) (s : State) : (sample l s).2.cmdLost = s.cmdLost := by
  obtain ⟨_, _, _, h⟩ := sample_frame l s; rw [h]
@[simp] theorem sample_rxdata (l : Line) (s : State) : (sample l s).2.rxdata = s.rxdata := by
  obtain ⟨_, _, _, h⟩ := sample_frame l s; rw [h]
@[simp] theorem sample_bitDelay (l : Line) (s : State) : (sample l s).2.bitDelay = s.bitDelay := by
  obtain ⟨_, _, _, h⟩ := sample_frame l s; rw [h]
@[simp] theorem sample_stretchTimeout (l : Line) (s : State) : (sample l s).2.stretchTimeout = s.stretchTimeout := by
  obtain ⟨_, _, _, h⟩ := sample_frame l s; rw [h]
@[simp] theorem sample_slaveAddr (l : Line) (s : State) : (sample l s).2.slaveAddr = s.slaveAddr := by
  obtain ⟨_, _, _, h⟩ := sample_frame l s; rw [h]
@[simp] theorem sample_cur (l : Line) (s : State) : (sample l s).2.cur = s.cur := by
  obtain ⟨_, _, _, h⟩ := sample_frame l s; rw [h]
@[simp] theorem sample_rst (l : Line) (s : State) : (sample l s).2.rst = s.rst := by
  obtain ⟨_, _, _, h⟩ := sample_frame l s; rw [h]
@[simp] theorem sample_useq (l : Line) (s : State) : (sample l s).2.useq = s.useq := by
  obtain ⟨_, _, _, h⟩ := sample_frame l s; rw [h]
@[simp] theorem sample_sr (l : Line) (s : State) : (sample l s).2.sr = s.sr := by
  obtain ⟨_, _, _, h⟩ := sample_frame l s; rw [h]
@[simp] theorem sample_k (l : Line) (s : State) : (sample l s).2.k = s.k := by
  obtain ⟨_, _, _, h⟩ := sample_frame l s; rw [h]
@[simp] theorem sample_p (l : Line) (s : State) : (sample l s).2.p = s.p := by
  obtain ⟨_, _, _, h⟩ := sample_frame l s; rw [h]
@[simp] theorem sample_initReq (l : Line) (s : State) : (sample l s).2.initReq = s.initReq := by
  obtain ⟨_, _, _, h⟩ := sample_frame l s; rw [h]
@[simp] theorem sample_ackLatch (l : Line) (s : State) : (sample l s).2.ackLatch = s.ackLatch := by
  obtain ⟨_, _, _, h⟩ := sample_frame l s; rw [h]
@[simp] theorem sample_initIn (l : Line) (s : State) : (sample l s).2.initIn = s.initIn := by
  obtain ⟨_, _, _, h⟩ := sample_frame l s; rw [h]
@[simp] theorem sample_sched (l : Line) (s : State) : (sample l s).2.sched = s.sched := by
  obtain ⟨_, _, _, h⟩ := sample_frame l s; rw [h]
@[simp] theorem sample_reads (l : Line) (s : State) : (sample l s).2.reads = s.reads := by
  obtain ⟨_, _, _, h⟩ := sample_frame l s; rw [h]

/-! ## `sample2`: the input lists, the draw counter and the trace apart, nothing changes -/

@[simp] theorem sample2_drvScl (s : State) : (sample2 s).2.drvScl = s.drvScl := by
  obtain ⟨_, _, _, h⟩ := sample2_frame s; rw [h]
@[simp] theorem sample2_drvSda (s : State) : (sample2 s).2.drvSda = s.drvSda := by
  obtain ⟨_, _, _, h⟩ := sample2_frame s; rw [h]
@[simp] theorem sample2_busy (s : State) : (sample2 s).2.busy = s.busy := by
  obtain ⟨_, _, _, h⟩ := sample2_frame s; rw [h]
@[simp] theorem sample2_opened (s : State) : (sample2 s).2.opened = s.opened := by
  obtain ⟨_, _, _, h⟩ := sample2_frame s; rw [h]
@[simp] theorem sample2_ack (s : State) : (sample2 s).2.ack = s.ack := by
  obtain ⟨_, _, _, h⟩ := sample2_frame s; rw [h]
@[simp] theorem sample2_level (s : State) : (sample2 s).2.level = s.level := by
  obtain ⟨_, _, _, h⟩ := sample2_frame s; rw [h]
@[simp] theorem sample2_err (s : State) : (sample2 s).2.err = s.err := by
  obtain ⟨_, _, _, h⟩ := sample2_frame s; rw [h]
@[simp] theorem sample2_cmdLost (s : State) : (sample2 s).2.cmdLost = s.cmdLost := by
  obtain ⟨_, _, _, h⟩ := sample2_frame s; rw [h]
@[simp] theorem sample2_rxdata (s : State) : (sample2 s).2.rxdata = s.rxdata := by
  obtain ⟨_, _, _, h⟩ := sample2_frame s; rw [h]
@[simp] theorem sample2_bitDelay (s : State) : (sample2 s).2.bitDelay = s.bitDelay := by
  obtain ⟨_, _, _, h⟩ := sample2_frame s; rw [h]
@[simp] theorem sample2_stretchTimeout (s : State) : (sample2 s).2.stretchTimeout = s.stretchTimeout := by
  obtain ⟨_, _, _, h⟩ := sample2_frame s; rw [h]
@[simp] theorem sample2_slaveAddr (s : State) : (sample2 s).2.slaveAddr = s.slaveAddr := by
  obtain ⟨_, _, _, h⟩ := sample2_frame s; rw [h]
@[simp] theorem sample2_cur (s : State) : (sample2 s).2.cur = s.cur := by
  obtain ⟨_, _, _, h⟩ := sample2_frame s; rw [h]
@[simp] theorem sample2_rst (s : State) : (sample2 s).2.rst = s.rst := by
  obtain ⟨_, _, _, h⟩ := sample2_frame s; rw [h]
@[simp] theorem sample2_useq (s : State) : (sample2 s).2.useq = s.useq := by
  obtain ⟨_, _, _, h⟩ := sample2_frame s; rw [h]
@[simp] theorem sample2_sr (s : State) : (sample2 s).2.sr = s.sr := by
  obtain ⟨_, _, _, h⟩ := sample2_frame s; rw [h]
@[simp] theorem sample2_k (s : State) : (sample2 s).2.k = s.k := by
  obtain ⟨_, _, _, h⟩ := sample2_frame s; rw [h]
@[simp] theorem sample2_p (s : State) : (sample2 s).2.p = s.p := by
  obtain ⟨_, _, _, h⟩ := sample2_frame s; rw [h]
@[simp] theorem sample2_initReq (s : State) : (sample2 s).2.initReq = s.initReq := by
  obtain ⟨_, _, _, h⟩ := sample2_frame s; rw [h]
@[simp] theorem sample2_ackLatch (s : State) : (sample2 s).2.ackLatch = s.ackLatch := by
  obtain ⟨_, _, _, h⟩ := sample2_frame s; rw [h]
@[simp] theorem sample2_initIn (s : State) : (sample2 s).2.initIn = s.initIn := by
  obtain ⟨_, _, _, h⟩ := sample2_frame s; rw [h]
@[simp] theorem sample2_sched (s : State) : (sample2 s).2.sched = s.sched := by
  obtain ⟨_, _, _, h⟩ := sample2_frame s; rw [h]
@[simp] theorem sample2_reads (s : State) : (sample2 s).2.reads = s.reads := by
  obtain ⟨_, _, _, h⟩ := sample2_frame s; rw [h]

/-- A sample adds its event (00_scope R17). -/
@[simp] theorem sample_trace (l : Line) (s : State) :
    (sample l s).2.trace = .sample l (sample l s).1 :: s.trace := by
  obtain ⟨_, _, _, h⟩ := sample_frame l s; rw [h]

/-- A sample of both lines adds its event (00_scope R17). -/
@[simp] theorem sample2_trace (s : State) :
    (sample2 s).2.trace = .sample2 (sample2 s).1.1 (sample2 s).1.2 :: s.trace := by
  obtain ⟨_, _, _, h⟩ := sample2_frame s; rw [h]

/-! ## `initRequest`: the answers to come, the draw counter and the trace apart, nothing changes -/

@[simp] theorem initRequest_drvScl (s : State) : (initRequest s).2.drvScl = s.drvScl := by
  obtain ⟨_, _, h⟩ := initRequest_frame s; rw [h]
@[simp] theorem initRequest_drvSda (s : State) : (initRequest s).2.drvSda = s.drvSda := by
  obtain ⟨_, _, h⟩ := initRequest_frame s; rw [h]
@[simp] theorem initRequest_busy (s : State) : (initRequest s).2.busy = s.busy := by
  obtain ⟨_, _, h⟩ := initRequest_frame s; rw [h]
@[simp] theorem initRequest_opened (s : State) : (initRequest s).2.opened = s.opened := by
  obtain ⟨_, _, h⟩ := initRequest_frame s; rw [h]
@[simp] theorem initRequest_ack (s : State) : (initRequest s).2.ack = s.ack := by
  obtain ⟨_, _, h⟩ := initRequest_frame s; rw [h]
@[simp] theorem initRequest_level (s : State) : (initRequest s).2.level = s.level := by
  obtain ⟨_, _, h⟩ := initRequest_frame s; rw [h]
@[simp] theorem initRequest_err (s : State) : (initRequest s).2.err = s.err := by
  obtain ⟨_, _, h⟩ := initRequest_frame s; rw [h]
@[simp] theorem initRequest_cmdLost (s : State) : (initRequest s).2.cmdLost = s.cmdLost := by
  obtain ⟨_, _, h⟩ := initRequest_frame s; rw [h]
@[simp] theorem initRequest_rxdata (s : State) : (initRequest s).2.rxdata = s.rxdata := by
  obtain ⟨_, _, h⟩ := initRequest_frame s; rw [h]
@[simp] theorem initRequest_bitDelay (s : State) : (initRequest s).2.bitDelay = s.bitDelay := by
  obtain ⟨_, _, h⟩ := initRequest_frame s; rw [h]
@[simp] theorem initRequest_stretchTimeout (s : State) : (initRequest s).2.stretchTimeout = s.stretchTimeout := by
  obtain ⟨_, _, h⟩ := initRequest_frame s; rw [h]
@[simp] theorem initRequest_slaveAddr (s : State) : (initRequest s).2.slaveAddr = s.slaveAddr := by
  obtain ⟨_, _, h⟩ := initRequest_frame s; rw [h]
@[simp] theorem initRequest_cur (s : State) : (initRequest s).2.cur = s.cur := by
  obtain ⟨_, _, h⟩ := initRequest_frame s; rw [h]
@[simp] theorem initRequest_rst (s : State) : (initRequest s).2.rst = s.rst := by
  obtain ⟨_, _, h⟩ := initRequest_frame s; rw [h]
@[simp] theorem initRequest_useq (s : State) : (initRequest s).2.useq = s.useq := by
  obtain ⟨_, _, h⟩ := initRequest_frame s; rw [h]
@[simp] theorem initRequest_sr (s : State) : (initRequest s).2.sr = s.sr := by
  obtain ⟨_, _, h⟩ := initRequest_frame s; rw [h]
@[simp] theorem initRequest_k (s : State) : (initRequest s).2.k = s.k := by
  obtain ⟨_, _, h⟩ := initRequest_frame s; rw [h]
@[simp] theorem initRequest_p (s : State) : (initRequest s).2.p = s.p := by
  obtain ⟨_, _, h⟩ := initRequest_frame s; rw [h]
@[simp] theorem initRequest_ackLatch (s : State) : (initRequest s).2.ackLatch = s.ackLatch := by
  obtain ⟨_, _, h⟩ := initRequest_frame s; rw [h]
@[simp] theorem initRequest_sclIn (s : State) : (initRequest s).2.sclIn = s.sclIn := by
  obtain ⟨_, _, h⟩ := initRequest_frame s; rw [h]
@[simp] theorem initRequest_sdaIn (s : State) : (initRequest s).2.sdaIn = s.sdaIn := by
  obtain ⟨_, _, h⟩ := initRequest_frame s; rw [h]
@[simp] theorem initRequest_sched (s : State) : (initRequest s).2.sched = s.sched := by
  obtain ⟨_, _, h⟩ := initRequest_frame s; rw [h]
@[simp] theorem initRequest_reads (s : State) : (initRequest s).2.reads = s.reads := by
  obtain ⟨_, _, h⟩ := initRequest_frame s; rw [h]
@[simp] theorem initRequest_initReq (s : State) : (initRequest s).2.initReq = false := by
  obtain ⟨_, _, h⟩ := initRequest_frame s; rw [h]
@[simp] theorem initRequest_trace (s : State) :
    (initRequest s).2.trace = .init (initRequest s).1 :: s.trace := by
  obtain ⟨_, _, h⟩ := initRequest_frame s; rw [h]

/-! ## `driveLow`, `release`, `wait` -/

@[simp] theorem driveLow_busy (l : Line) (s : State) : (driveLow l s).busy = s.busy := by simp [driveLow]
@[simp] theorem driveLow_opened (l : Line) (s : State) : (driveLow l s).opened = s.opened := by simp [driveLow]
@[simp] theorem driveLow_ack (l : Line) (s : State) : (driveLow l s).ack = s.ack := by simp [driveLow]
@[simp] theorem driveLow_level (l : Line) (s : State) : (driveLow l s).level = s.level := by simp [driveLow]
@[simp] theorem driveLow_err (l : Line) (s : State) : (driveLow l s).err = s.err := by simp [driveLow]
@[simp] theorem driveLow_cmdLost (l : Line) (s : State) : (driveLow l s).cmdLost = s.cmdLost := by simp [driveLow]
@[simp] theorem driveLow_rxdata (l : Line) (s : State) : (driveLow l s).rxdata = s.rxdata := by simp [driveLow]
@[simp] theorem driveLow_bitDelay (l : Line) (s : State) : (driveLow l s).bitDelay = s.bitDelay := by simp [driveLow]
@[simp] theorem driveLow_stretchTimeout (l : Line) (s : State) : (driveLow l s).stretchTimeout = s.stretchTimeout := by simp [driveLow]
@[simp] theorem driveLow_slaveAddr (l : Line) (s : State) : (driveLow l s).slaveAddr = s.slaveAddr := by simp [driveLow]
@[simp] theorem driveLow_cur (l : Line) (s : State) : (driveLow l s).cur = s.cur := by simp [driveLow]
@[simp] theorem driveLow_rst (l : Line) (s : State) : (driveLow l s).rst = s.rst := by simp [driveLow]
@[simp] theorem driveLow_useq (l : Line) (s : State) : (driveLow l s).useq = s.useq := by simp [driveLow]
@[simp] theorem driveLow_sr (l : Line) (s : State) : (driveLow l s).sr = s.sr := by simp [driveLow]
@[simp] theorem driveLow_k (l : Line) (s : State) : (driveLow l s).k = s.k := by simp [driveLow]
@[simp] theorem driveLow_p (l : Line) (s : State) : (driveLow l s).p = s.p := by simp [driveLow]
@[simp] theorem driveLow_initReq (l : Line) (s : State) : (driveLow l s).initReq = s.initReq := by simp [driveLow]
@[simp] theorem driveLow_ackLatch (l : Line) (s : State) : (driveLow l s).ackLatch = s.ackLatch := by simp [driveLow]
@[simp] theorem driveLow_sclIn (l : Line) (s : State) : (driveLow l s).sclIn = s.sclIn := by simp [driveLow]
@[simp] theorem driveLow_sdaIn (l : Line) (s : State) : (driveLow l s).sdaIn = s.sdaIn := by simp [driveLow]
@[simp] theorem driveLow_initIn (l : Line) (s : State) : (driveLow l s).initIn = s.initIn := by simp [driveLow]
@[simp] theorem driveLow_draws (l : Line) (s : State) : (driveLow l s).draws = s.draws := by simp [driveLow]
@[simp] theorem driveLow_sched (l : Line) (s : State) : (driveLow l s).sched = s.sched := by simp [driveLow]
@[simp] theorem driveLow_trace (l : Line) (s : State) : (driveLow l s).trace = .dl l :: s.trace := by simp [driveLow]
@[simp] theorem driveLow_reads (l : Line) (s : State) : (driveLow l s).reads = s.reads := by simp [driveLow]
@[simp] theorem release_busy (l : Line) (s : State) : (release l s).busy = s.busy := by simp [release]
@[simp] theorem release_opened (l : Line) (s : State) : (release l s).opened = s.opened := by simp [release]
@[simp] theorem release_ack (l : Line) (s : State) : (release l s).ack = s.ack := by simp [release]
@[simp] theorem release_level (l : Line) (s : State) : (release l s).level = s.level := by simp [release]
@[simp] theorem release_err (l : Line) (s : State) : (release l s).err = s.err := by simp [release]
@[simp] theorem release_cmdLost (l : Line) (s : State) : (release l s).cmdLost = s.cmdLost := by simp [release]
@[simp] theorem release_rxdata (l : Line) (s : State) : (release l s).rxdata = s.rxdata := by simp [release]
@[simp] theorem release_bitDelay (l : Line) (s : State) : (release l s).bitDelay = s.bitDelay := by simp [release]
@[simp] theorem release_stretchTimeout (l : Line) (s : State) : (release l s).stretchTimeout = s.stretchTimeout := by simp [release]
@[simp] theorem release_slaveAddr (l : Line) (s : State) : (release l s).slaveAddr = s.slaveAddr := by simp [release]
@[simp] theorem release_cur (l : Line) (s : State) : (release l s).cur = s.cur := by simp [release]
@[simp] theorem release_rst (l : Line) (s : State) : (release l s).rst = s.rst := by simp [release]
@[simp] theorem release_useq (l : Line) (s : State) : (release l s).useq = s.useq := by simp [release]
@[simp] theorem release_sr (l : Line) (s : State) : (release l s).sr = s.sr := by simp [release]
@[simp] theorem release_k (l : Line) (s : State) : (release l s).k = s.k := by simp [release]
@[simp] theorem release_p (l : Line) (s : State) : (release l s).p = s.p := by simp [release]
@[simp] theorem release_initReq (l : Line) (s : State) : (release l s).initReq = s.initReq := by simp [release]
@[simp] theorem release_ackLatch (l : Line) (s : State) : (release l s).ackLatch = s.ackLatch := by simp [release]
@[simp] theorem release_sclIn (l : Line) (s : State) : (release l s).sclIn = s.sclIn := by simp [release]
@[simp] theorem release_sdaIn (l : Line) (s : State) : (release l s).sdaIn = s.sdaIn := by simp [release]
@[simp] theorem release_initIn (l : Line) (s : State) : (release l s).initIn = s.initIn := by simp [release]
@[simp] theorem release_draws (l : Line) (s : State) : (release l s).draws = s.draws := by simp [release]
@[simp] theorem release_sched (l : Line) (s : State) : (release l s).sched = s.sched := by simp [release]
@[simp] theorem release_trace (l : Line) (s : State) : (release l s).trace = .rl l :: s.trace := by simp [release]
@[simp] theorem release_reads (l : Line) (s : State) : (release l s).reads = s.reads := by simp [release]
@[simp] theorem wait_drvScl (n : Nat) (s : State) : (wait n s).drvScl = s.drvScl := by simp [wait]
@[simp] theorem wait_drvSda (n : Nat) (s : State) : (wait n s).drvSda = s.drvSda := by simp [wait]
@[simp] theorem wait_busy (n : Nat) (s : State) : (wait n s).busy = s.busy := by simp [wait]
@[simp] theorem wait_opened (n : Nat) (s : State) : (wait n s).opened = s.opened := by simp [wait]
@[simp] theorem wait_ack (n : Nat) (s : State) : (wait n s).ack = s.ack := by simp [wait]
@[simp] theorem wait_level (n : Nat) (s : State) : (wait n s).level = s.level := by simp [wait]
@[simp] theorem wait_err (n : Nat) (s : State) : (wait n s).err = s.err := by simp [wait]
@[simp] theorem wait_cmdLost (n : Nat) (s : State) : (wait n s).cmdLost = s.cmdLost := by simp [wait]
@[simp] theorem wait_rxdata (n : Nat) (s : State) : (wait n s).rxdata = s.rxdata := by simp [wait]
@[simp] theorem wait_bitDelay (n : Nat) (s : State) : (wait n s).bitDelay = s.bitDelay := by simp [wait]
@[simp] theorem wait_stretchTimeout (n : Nat) (s : State) : (wait n s).stretchTimeout = s.stretchTimeout := by simp [wait]
@[simp] theorem wait_slaveAddr (n : Nat) (s : State) : (wait n s).slaveAddr = s.slaveAddr := by simp [wait]
@[simp] theorem wait_cur (n : Nat) (s : State) : (wait n s).cur = s.cur := by simp [wait]
@[simp] theorem wait_rst (n : Nat) (s : State) : (wait n s).rst = s.rst := by simp [wait]
@[simp] theorem wait_useq (n : Nat) (s : State) : (wait n s).useq = s.useq := by simp [wait]
@[simp] theorem wait_sr (n : Nat) (s : State) : (wait n s).sr = s.sr := by simp [wait]
@[simp] theorem wait_k (n : Nat) (s : State) : (wait n s).k = s.k := by simp [wait]
@[simp] theorem wait_p (n : Nat) (s : State) : (wait n s).p = s.p := by simp [wait]
@[simp] theorem wait_initReq (n : Nat) (s : State) : (wait n s).initReq = s.initReq := by simp [wait]
@[simp] theorem wait_ackLatch (n : Nat) (s : State) : (wait n s).ackLatch = s.ackLatch := by simp [wait]
@[simp] theorem wait_sclIn (n : Nat) (s : State) : (wait n s).sclIn = s.sclIn := by simp [wait]
@[simp] theorem wait_sdaIn (n : Nat) (s : State) : (wait n s).sdaIn = s.sdaIn := by simp [wait]
@[simp] theorem wait_initIn (n : Nat) (s : State) : (wait n s).initIn = s.initIn := by simp [wait]
@[simp] theorem wait_draws (n : Nat) (s : State) : (wait n s).draws = s.draws := by simp [wait]
@[simp] theorem wait_sched (n : Nat) (s : State) : (wait n s).sched = s.sched := by simp [wait]
@[simp] theorem wait_trace (n : Nat) (s : State) : (wait n s).trace = .wait n :: s.trace := by simp [wait]
@[simp] theorem wait_reads (n : Nat) (s : State) : (wait n s).reads = s.reads := by simp [wait]

/-! ## One entry of a micro-operation list: what no entry writes -/

@[simp] theorem runMicro_busy (m : Micro) (s : State) : (runMicro m s).2.busy = s.busy := by
  cases m <;> simp only [runMicro, initStep, gatePoll, busPoll, sendBit, recvBit, lowerBit, sampleAck, readLevel] <;> (try split) <;> simp
@[simp] theorem runMicro_opened (m : Micro) (s : State) : (runMicro m s).2.opened = s.opened := by
  cases m <;> simp only [runMicro, initStep, gatePoll, busPoll, sendBit, recvBit, lowerBit, sampleAck, readLevel] <;> (try split) <;> simp
@[simp] theorem runMicro_ack (m : Micro) (s : State) : (runMicro m s).2.ack = s.ack := by
  cases m <;> simp only [runMicro, initStep, gatePoll, busPoll, sendBit, recvBit, lowerBit, sampleAck, readLevel] <;> (try split) <;> simp
@[simp] theorem runMicro_err (m : Micro) (s : State) : (runMicro m s).2.err = s.err := by
  cases m <;> simp only [runMicro, initStep, gatePoll, busPoll, sendBit, recvBit, lowerBit, sampleAck, readLevel] <;> (try split) <;> simp
@[simp] theorem runMicro_cmdLost (m : Micro) (s : State) : (runMicro m s).2.cmdLost = s.cmdLost := by
  cases m <;> simp only [runMicro, initStep, gatePoll, busPoll, sendBit, recvBit, lowerBit, sampleAck, readLevel] <;> (try split) <;> simp
@[simp] theorem runMicro_rxdata (m : Micro) (s : State) : (runMicro m s).2.rxdata = s.rxdata := by
  cases m <;> simp only [runMicro, initStep, gatePoll, busPoll, sendBit, recvBit, lowerBit, sampleAck, readLevel] <;> (try split) <;> simp
@[simp] theorem runMicro_bitDelay (m : Micro) (s : State) : (runMicro m s).2.bitDelay = s.bitDelay := by
  cases m <;> simp only [runMicro, initStep, gatePoll, busPoll, sendBit, recvBit, lowerBit, sampleAck, readLevel] <;> (try split) <;> simp
@[simp] theorem runMicro_stretchTimeout (m : Micro) (s : State) : (runMicro m s).2.stretchTimeout = s.stretchTimeout := by
  cases m <;> simp only [runMicro, initStep, gatePoll, busPoll, sendBit, recvBit, lowerBit, sampleAck, readLevel] <;> (try split) <;> simp
@[simp] theorem runMicro_slaveAddr (m : Micro) (s : State) : (runMicro m s).2.slaveAddr = s.slaveAddr := by
  cases m <;> simp only [runMicro, initStep, gatePoll, busPoll, sendBit, recvBit, lowerBit, sampleAck, readLevel] <;> (try split) <;> simp
@[simp] theorem runMicro_cur (m : Micro) (s : State) : (runMicro m s).2.cur = s.cur := by
  cases m <;> simp only [runMicro, initStep, gatePoll, busPoll, sendBit, recvBit, lowerBit, sampleAck, readLevel] <;> (try split) <;> simp
@[simp] theorem runMicro_rst (m : Micro) (s : State) : (runMicro m s).2.rst = s.rst := by
  cases m <;> simp only [runMicro, initStep, gatePoll, busPoll, sendBit, recvBit, lowerBit, sampleAck, readLevel] <;> (try split) <;> simp
@[simp] theorem runMicro_useq (m : Micro) (s : State) : (runMicro m s).2.useq = s.useq := by
  cases m <;> simp only [runMicro, initStep, gatePoll, busPoll, sendBit, recvBit, lowerBit, sampleAck, readLevel] <;> (try split) <;> simp
@[simp] theorem runMicro_sched (m : Micro) (s : State) : (runMicro m s).2.sched = s.sched := by
  cases m <;> simp only [runMicro, initStep, gatePoll, busPoll, sendBit, recvBit, lowerBit, sampleAck, readLevel] <;> (try split) <;> simp
@[simp] theorem runMicro_reads (m : Micro) (s : State) : (runMicro m s).2.reads = s.reads := by
  cases m <;> simp only [runMicro, initStep, gatePoll, busPoll, sendBit, recvBit, lowerBit, sampleAck, readLevel] <;> (try split) <;> simp

/-! ## One entry of a micro-operation list: what only some entries write -/

theorem runMicro_level {m : Micro} (s : State) (h0 : ∀ l, m ≠ .readLevel l) : (runMicro m s).2.level = s.level := by
  cases m <;> simp only [runMicro, initStep, gatePoll, busPoll, sendBit, recvBit, lowerBit, sampleAck, readLevel] <;> (try split) <;> simp_all
theorem runMicro_sr {m : Micro} (s : State) (h0 : m ≠ .recvBit) : (runMicro m s).2.sr = s.sr := by
  cases m <;> simp only [runMicro, initStep, gatePoll, busPoll, sendBit, recvBit, lowerBit, sampleAck, readLevel] <;> (try split) <;> simp_all
theorem runMicro_k {m : Micro} (s : State) (h0 : m ≠ .lowerBit) : (runMicro m s).2.k = s.k := by
  cases m <;> simp only [runMicro, initStep, gatePoll, busPoll, sendBit, recvBit, lowerBit, sampleAck, readLevel] <;> (try split) <;> simp_all
theorem runMicro_ackLatch {m : Micro} (s : State) (h0 : m ≠ .sampleAck) : (runMicro m s).2.ackLatch = s.ackLatch := by
  cases m <;> simp only [runMicro, initStep, gatePoll, busPoll, sendBit, recvBit, lowerBit, sampleAck, readLevel] <;> (try split) <;> simp_all
theorem runMicro_initReq {m : Micro} (s : State) (h0 : m ≠ .init) : (runMicro m s).2.initReq = s.initReq := by
  cases m <;> simp only [runMicro, initStep, gatePoll, busPoll, sendBit, recvBit, lowerBit, sampleAck, readLevel] <;> (try split) <;> simp_all
theorem runMicro_initIn {m : Micro} (s : State) (h0 : m ≠ .init) : (runMicro m s).2.initIn = s.initIn := by
  cases m <;> simp only [runMicro, initStep, gatePoll, busPoll, sendBit, recvBit, lowerBit, sampleAck, readLevel] <;> (try split) <;> simp_all
theorem runMicro_p {m : Micro} (s : State) (h0 : m ≠ .gateRelease) (h1 : m ≠ .gatePoll) (h2 : m ≠ .busPoll) : (runMicro m s).2.p = s.p := by
  cases m <;> simp only [runMicro, initStep, gatePoll, busPoll, sendBit, recvBit, lowerBit, sampleAck, readLevel] <;> (try split) <;> simp_all

/-- An entry adds at most one event, and a line's drive state changes only with its own DL or RL
(10_state R22, 00_scope R17). -/
theorem runMicro_drive (m : Micro) (s : State) (l : Line) :
    ((runMicro m s).2.trace = s.trace ∨ ∃ e, (runMicro m s).2.trace = e :: s.trace) ∧
    ((runMicro m s).2.drv l = s.drv l ∨
      ((runMicro m s).2.drv l = .drivingLow ∧ (runMicro m s).2.trace = .dl l :: s.trace) ∨
      ((runMicro m s).2.drv l = .released ∧ (runMicro m s).2.trace = .rl l :: s.trace)) := by
  cases m <;> simp only [runMicro, initStep, gatePoll, busPoll, sendBit, recvBit, lowerBit, sampleAck,
      readLevel] <;>
    (try split) <;> (try cases l) <;> (try rename_i a; cases a) <;>
    simp [State.drv, driveLow, release, State.setDrv, record, wait]

end Sys2Proof.Machine
end

