-- ==== Sys2Proof/Laws/PerInstr.lean ====
section
/-!
SUPPORT. Statements about each instruction as syntax. Family `RowMatch`: the encoded word of a command
matches the command's row of the opcode map (30_encoding R86).
-/

namespace Sys2Proof.Laws.RowMatch

/-- The row of the opcode map (R86) that a command belongs to: its match and its mask. -/
def rowOf : Instr → Word × Word
  | .openSession => (0x00000001, 0xFFFFFFFF)
  | .driveLow _ => (0x00000002, 0xFFFFFFEF)
  | .release _ => (0x00000003, 0xFFFFFFEF)
  | .read _ => (0x00000004, 0xFFFFFFEF)
  | .delay _ => (0x00000005, 0x0000FFFF)
  | .raiseScl => (0x00000006, 0xFFFFFFFF)
  | .busfree => (0x00000007, 0xFFFFFFFF)
  | .start => (0x00000008, 0xFFFFFFFF)
  | .restart => (0x00000009, 0xFFFFFFFF)
  | .stop => (0x0000000A, 0xFFFFFFFF)
  | .send _ => (0x0000000B, 0xFFFF00FF)
  | .senda _ => (0x0000000C, 0xFFFFFFDF)
  | .recv _ => (0x0000000D, 0xFFFFFFDF)

/-- `(encode i & mask) == match` (R86). -/
def Statement (i : Instr) : Prop := encode i &&& (rowOf i).2 = (rowOf i).1

theorem openSession : Statement .openSession := by unfold Statement; decide
theorem driveLow (l : Line) : Statement (.driveLow l) := by unfold Statement; cases l <;> decide
theorem release (l : Line) : Statement (.release l) := by unfold Statement; cases l <;> decide
theorem read (l : Line) : Statement (.read l) := by unfold Statement; cases l <;> decide

theorem delay (n : BitVec 16) : Statement (.delay n) := by
  unfold Statement
  apply BitVec.eq_of_getElem_eq
  intro j hj
  simp only [encode, rowOf, BitVec.getElem_and, BitVec.getElem_or, BitVec.getElem_shiftLeft]
  interval_cases j <;> simp

theorem raiseScl : Statement .raiseScl := by unfold Statement; decide
theorem busfree : Statement .busfree := by unfold Statement; decide
theorem start : Statement .start := by unfold Statement; decide
theorem restart : Statement .restart := by unfold Statement; decide
theorem stop : Statement .stop := by unfold Statement; decide

theorem send (b : Byte) : Statement (.send b) := by
  unfold Statement
  apply BitVec.eq_of_getElem_eq
  intro j hj
  simp only [encode, rowOf, BitVec.getElem_and, BitVec.getElem_or, BitVec.getElem_shiftLeft]
  interval_cases j <;> simp

theorem senda (rw : RwSel) : Statement (.senda rw) := by unfold Statement; cases rw <;> decide
theorem recv (a : AckSel) : Statement (.recv a) := by unfold Statement; cases a <;> decide

end Sys2Proof.Laws.RowMatch
end

