-- ==== Sys2Proof/Laws/Window.lean ====
section
/-!
SUPPORT. The register window: which address names which register, what a host access can do, and the
turns of the whole machine.
-/

namespace Sys2Proof.Machine

/-- The window stands at `BASE` (20_memory R51). -/
@[simp] theorem regAtAddr_base (off : Nat) : regAtAddr (Config.base + off) = regAt off := by
  simp [regAtAddr]

/-- CMD stands at `BASE` itself (20_memory R51). -/
@[simp] theorem regAtAddr_base_self : regAtAddr Config.base = some .cmd := regAtAddr_base 0

/-- `BASE` is word-aligned (20_memory R50). -/
@[simp] theorem base_mod_four : Config.base % 4 = 0 := by unfold Config.base; omega

@[simp] theorem base_add_mod_four (off : Nat) : (Config.base + off) % 4 = off % 4 := by
  have := base_mod_four; omega

/-- `BASE` is 32-byte aligned (20_memory R50), so an access is word-aligned as its offset is. -/
@[simp] theorem fullWord_base (off bytes : Nat) :
    fullWord (Config.base + off) bytes = fullWord off bytes := by
  simp [fullWord]

/-- Everything a host access that is not refused can do (20_memory R58, R59). -/
theorem hostAccess_cases {a : HostAccess} {s t : State} (h : hostAccess a s = .next t) :
    (∃ addr r, a = .read addr 4 ∧ regAtAddr addr = some r ∧ t = { s with reads := readReg r s :: s.reads }) ∨
    (∃ addr r v, a = .write addr 4 v ∧ regAtAddr addr = some r ∧ t = hostWrite r v s) := by
  cases a with
  | read addr bytes =>
    simp only [hostAccess] at h
    split at h
    · rename_i hw
      have hb : bytes = 4 := by simp [fullWord] at hw; exact hw.1
      split at h
      · cases h; exact .inl ⟨addr, _, by rw [hb], by assumption, rfl⟩
      · cases h
    · cases h
  | write addr bytes v =>
    simp only [hostAccess] at h
    split at h
    · rename_i hw
      have hb : bytes = 4 := by simp [fullWord] at hw; exact hw.1
      split at h
      · cases h; exact .inr ⟨addr, _, v, by rw [hb], by assumption, rfl⟩
      · cases h
    · cases h

/-- A write never moves a line, the trace or a result register (20_memory R59): it writes `cur`, ERR,
BUSY and `useq` (acceptance), CMD_LOST, or one configuration register. -/
theorem writeReg_frame (r : WinReg) (v : Word) (s : State) :
    ∃ c e b u l bd st sa, writeReg r v s =
      { s with cur := c, err := e, busy := b, useq := u, cmdLost := l, bitDelay := bd,
               stretchTimeout := st, slaveAddr := sa } := by
  cases r <;>
    simp only [writeReg, writeCmd, writeStatus, acceptCommand] <;>
    first
    | exact ⟨_, _, _, _, _, _, _, _, rfl⟩
    | (split <;> exact ⟨_, _, _, _, _, _, _, _, rfl⟩)

/-- A write reaches the block only while `rst` is released (70_reset_and_hazards R200). -/
theorem hostWrite_of_released {s : State} (r : WinReg) (v : Word) (h : s.rst = false) :
    hostWrite r v s = writeReg r v s := by
  simp [hostWrite, h]

/-- While `rst` is asserted a write is lost. -/
theorem hostWrite_of_asserted {s : State} (r : WinReg) (v : Word) (h : s.rst = true) :
    hostWrite r v s = s := by
  simp [hostWrite, h]

/-- A host write has the frame of a write to a register. -/
theorem hostWrite_frame (r : WinReg) (v : Word) (s : State) :
    ∃ c e b u l bd st sa, hostWrite r v s =
      { s with cur := c, err := e, busy := b, useq := u, cmdLost := l, bitDelay := bd,
               stretchTimeout := st, slaveAddr := sa } := by
  unfold hostWrite
  split
  · exact ⟨_, _, _, _, _, _, _, _, rfl⟩
  · exact writeReg_frame r v s

/-- Everything a step can be: the controller's turn, a host access or a change of `rst`, each in the state whose
list of turns has moved on (20_memory R62). -/
theorem step_cases (s : State) :
    (s.sched = [] ∧ step s = controllerTurn s) ∨
    (∃ ts, s.sched = .controller :: ts ∧ step s = controllerTurn { s with sched := ts }) ∨
    (∃ a ts, s.sched = .access a :: ts ∧ step s = hostAccess a { s with sched := ts }) ∨
    (∃ ts, s.sched = .rst true :: ts ∧ step s = .next (assertReset { s with sched := ts })) ∨
    (∃ ts, s.sched = .rst false :: ts ∧ step s = .next (releaseReset { s with sched := ts })) := by
  unfold step nextTurn
  split <;> rename_i h
  · exact .inl ⟨h, rfl⟩
  · rename_i t ts
    cases t with
    | controller => exact .inr (.inl ⟨ts, h, rfl⟩)
    | access a => exact .inr (.inr (.inl ⟨a, ts, h, rfl⟩))
    | rst b =>
      cases b with
      | true => exact .inr (.inr (.inr (.inl ⟨ts, h, rfl⟩)))
      | false => exact .inr (.inr (.inr (.inr ⟨ts, h, rfl⟩)))

/-- Everything the controller's turn can be. -/
theorem controllerTurn_cases (s : State) :
    ((s.rst = true ∨ s.busy = false) ∧ controllerTurn s = .next s) ∨
    (s.rst = false ∧ s.busy = true ∧ ∃ i, decode s.cur = .ok i ∧ controllerTurn s = exec i s) ∨
    (s.rst = false ∧ s.busy = true ∧ ∃ e, decode s.cur = .error e ∧ controllerTurn s = execIllegal s) := by
  unfold controllerTurn
  cases hr : s.rst with
  | true => exact .inl ⟨.inl rfl, by simp⟩
  | false =>
    cases s.busy with
    | false => exact .inl ⟨.inr rfl, by simp⟩
    | true =>
      cases hd : decode s.cur with
      | ok i => exact .inr (.inl ⟨rfl, rfl, i, rfl, by simp⟩)
      | error e => exact .inr (.inr ⟨rfl, rfl, e, rfl, by simp⟩)

end Sys2Proof.Machine
end

