-- ==== Sys2Proof/Tests/Slice0.lean ====
section
/-!
SUPPORT. The model's own tests: assembler refusals, decoding of words written out from the encodings
(95_test_vectors 2.1), single controller steps against the traces of 95_test_vectors, host accesses, and for
every statement with hypotheses a concrete state that meets them.
-/

open Sys2Proof Sys2Proof.Machine

namespace Sys2Proof.Tests

/-- The state a result answers, if it does. -/
def nextOf : Result → Option State
  | .next s => some s
  | .fault _ => none
  | .refused _ => none

/-- An open session with `bd = 1`, `T = 3`, `sa = 0x21`, in which the word of `i` is accepted and its
first controller step is next. -/
def accepted (i : Instr) : State :=
  { State.reset with
    opened := true, bitDelay := 1, stretchTimeout := 3, slaveAddr := 0x21, trace := []
    busy := true, cur := encode i, useq := .first }

/-- The same at entry `n` of the command's list. -/
def atEntry (i : Instr) (n : Nat) : State := { accepted i with useq := .pos n }

/-! ## Assembler: one ill-formed line for each check (30_encoding R90, R91) -/

theorem test_asm_delay_too_long : AsmLine.wellFormed (.delay 65536) = false := by decide
theorem test_asm_send_too_big : AsmLine.wellFormed (.send 256) = false := by decide
theorem test_asm_address_too_big : AsmLine.wellFormed (.sendAddr 0x80 .write) = false := by decide
theorem test_asm_refuses : assemble (.sendAddr 0x80 .write) = none := by decide
theorem test_asm_top_values : AsmLine.wellFormed (.delay 65535) = true ∧
    AsmLine.wellFormed (.send 255) = true ∧ AsmLine.wellFormed (.sendAddr 127 .read) = true := by decide
/-- 95_test_vectors W1. -/
theorem test_asm_send_addr : assemble (.sendAddr 0x50 .read) = some [0x0000A10B] := by decide
/-- 95_test_vectors P4. -/
theorem test_asm_repstart : assemble .repStart = some [0x00000013, 0x00000006, 0x00000009] := by decide

/-! ## Decode: every constructor's word, bit by bit (30_encoding R81, R86; 95_test_vectors 2.1) -/

theorem test_decode_open : decode 0b00000000000000000000000000000001 = .ok .openSession := by rfl
theorem test_decode_drive_low : decode 0b00000000000000000000000000010010 = .ok (.driveLow .sda) := by rfl
theorem test_decode_release : decode 0b00000000000000000000000000000011 = .ok (.release .scl) := by rfl
theorem test_decode_read : decode 0b00000000000000000000000000010100 = .ok (.read .sda) := by rfl
theorem test_decode_delay : decode 0b00000001001011000000000000000101 = .ok (.delay 300) := by rfl
theorem test_decode_raise_scl : decode 0b00000000000000000000000000000110 = .ok .raiseScl := by rfl
theorem test_decode_busfree : decode 0b00000000000000000000000000000111 = .ok .busfree := by rfl
theorem test_decode_start : decode 0b00000000000000000000000000001000 = .ok .start := by rfl
theorem test_decode_restart : decode 0b00000000000000000000000000001001 = .ok .restart := by rfl
theorem test_decode_stop : decode 0b00000000000000000000000000001010 = .ok .stop := by rfl
theorem test_decode_send : decode 0b00000000000000000100001000001011 = .ok (.send 0x42) := by rfl
theorem test_decode_senda : decode 0b00000000000000000000000000101100 = .ok (.senda .read) := by rfl
theorem test_decode_recv : decode 0b00000000000000000000000000101101 = .ok (.recv .ack) := by rfl

theorem test_decode_zero : decode 0x00000000 = .error .unassignedOp := by rfl
theorem test_decode_op_e : decode 0x0000000E = .error .unassignedOp := by rfl
theorem test_decode_line_in_open : decode 0x00000011 = .error .nonzeroUnusedBit := by rfl
theorem test_decode_z_bit : decode 0x00000082 = .error .nonzeroUnusedBit := by rfl
theorem test_decode_imm_in_delay : decode 0x00000105 = .error .nonzeroUnusedBit := by rfl
theorem test_decode_n_in_send : decode 0x0010000B = .error .nonzeroUnusedBit := by rfl
theorem test_decode_line_in_senda : decode 0x0000003C = .error .nonzeroUnusedBit := by rfl

/-! ## Single steps (95_test_vectors 2.3 to 2.9) -/

/-- 2.3: no configuration. -/
theorem test_open_bad_config :
    (nextOf (exec .openSession { accepted .openSession with opened := false, bitDelay := 0 })).map
      (fun t => (t.err, t.busy, t.trace)) = some (.badConfig, false, []) := by decide
/-- 2.3: `init_ok = 0`. -/
theorem test_open_init_fails :
    (nextOf (exec .openSession { accepted .openSession with opened := false, initIn := [false] })).map
      (fun t => (t.err, t.opened, t.trace)) = some (.subsystemInitFailed, false, [.init false]) := by decide
/-- 2.4: DRIVE_LOW SDA. -/
theorem test_drive_low_sda :
    (nextOf (exec (.driveLow .sda) (accepted (.driveLow .sda)))).map
      (fun t => (t.trace, statusWord t)) = some ([.dl .sda], 0x00000406) := by decide
/-- 2.4: RELEASE SDA of a driven line. -/
theorem test_release_sda :
    (nextOf (exec (.release .sda) { accepted (.release .sda) with drvSda := .drivingLow })).map
      (fun t => (t.trace, statusWord t)) = some ([.rl .sda], 0x00000006) := by decide
/-- 2.4: a driven line reads Low and no draw is used. -/
theorem test_read_driven :
    (nextOf (exec (.read .sda) { accepted (.read .sda) with drvSda := .drivingLow, sdaIn := [.high] })).map
      (fun t => (t.trace, t.level, t.sdaIn)) = some ([.sample .sda .low], .low, [.high]) := by decide
/-- 2.4: READ SDA with the environment High. -/
theorem test_read_released :
    (nextOf (exec (.read .sda) { accepted (.read .sda) with sdaIn := [.high] })).map
      (fun t => (t.trace, statusWord t)) = some ([.sample .sda .high], 0x0000000E) := by decide
/-- 2.5: DELAY 65535 is not scaled. -/
theorem test_delay_raw :
    (nextOf (exec (.delay 65535) (accepted (.delay 65535)))).map
      (fun t => (t.trace, t.err, t.busy)) = some ([.wait 65535], .ok, false) := by decide
/-- 2.5: `DLY_FULL` does not wrap. -/
theorem test_full_delay_no_wrap : delayUnits .full 0xFFFFFFFF = 0x3FFFFFFFC := by decide
/-- 2.6, T = 3: the third Low sample is not yet an error. -/
theorem test_gate_waits :
    (nextOf (exec .raiseScl { atEntry .raiseScl 1 with p := 2, sclIn := [.low] })).map
      (fun t => (t.trace, t.useq, t.p)) = some ([.sample .scl .low], .pos 1, 3) := by decide
/-- 2.6, T = 3: after three Low samples the abort release begins. -/
theorem test_gate_clock_held :
    (nextOf (exec .raiseScl { atEntry .raiseScl 1 with p := 3, sclIn := [.high] })).map
      (fun t => (t.trace, t.useq, t.busy)) = some ([.rl .scl], .abort .clockHeld, true) := by decide
/-- 2.7 row 3: one line Low keeps the bus busy. -/
theorem test_busfree_one_low :
    (nextOf (exec .busfree { accepted .busfree with sclIn := [.low], sdaIn := [.high] })).map
      (fun t => (t.trace, t.useq)) = some ([.sample2 .low .high], .pos 0) := by decide
/-- 2.7 row 5: a line the block drives reads Low. -/
theorem test_start_after_start :
    (nextOf (exec .start { accepted .start with drvScl := .drivingLow, drvSda := .drivingLow })).map
      (fun t => (t.trace, t.useq)) = some ([.sample2 .low .low], .pos 0) := by decide
/-- 2.7 row 4: the half-bit delay of START. -/
theorem test_start_half_delay :
    (nextOf (exec .start (atEntry .start 2))).map (·.trace) = some [.wait 2] := by decide
/-- 2.7 row 6: the last delay of RESTART. -/
theorem test_restart_full_delay :
    (nextOf (exec .restart (atEntry .restart 5))).map (fun t => (t.trace, t.err, t.busy)) =
      some ([.wait 4], .ok, false) := by decide
/-- 2.7 row 8: STOP begins with DL SDA. -/
theorem test_stop_first :
    (nextOf (exec .stop (accepted .stop))).map (fun t => (t.trace, t.useq)) =
      some ([.dl .sda], .pos 1) := by decide
/-- W2: bit 6 of 0x42 is 1, so SDA is released. -/
theorem test_send_bit_six :
    (nextOf (exec (.send 0x42) { atEntry (.send 0x42) 1 with sr := 0x42, k := 1 })).map (·.trace) =
      some [.rl .sda] := by decide
/-- 2.8 row 2: a NACK is stored and is no error. -/
theorem test_send_nack :
    (nextOf (exec (.send 0x00) { atEntry (.send 0x00) 12 with ackLatch := .high, ack := .low })).map
      (fun t => (statusWord t, t.trace)) = some (0x00000206, [.dl .scl]) := by decide
/-- W1: SENDA R with address 0x21 sends 0x43. -/
theorem test_senda_byte :
    (nextOf (exec (.senda .read) (accepted (.senda .read)))).map (fun t => (t.sr, t.trace)) =
      some (0x43, [.wait 1]) := by decide
/-- 2.8 row 10: the fifth data bit, `sr` from 0x0A to 0x14. -/
theorem test_recv_shift :
    (nextOf (exec (.recv .nack) { atEntry (.recv .nack) 4 with sr := 0x0A, k := 4, sdaIn := [.low] })).map
      (fun t => (t.sr, t.trace)) = some (0x14, [.sample .sda .low]) := by decide
/-- W3: RECV ACK drives SDA low in the ninth clock. -/
theorem test_recv_ack_choice :
    (nextOf (exec (.recv .ack) { atEntry (.recv .ack) 6 with k := 8 })).map (·.trace) =
      some [.dl .sda] := by decide
/-- 2.3: an all-zero word in a block that is not open: 7, not 4. -/
theorem test_illegal_before_not_open :
    (nextOf (step { State.reset with busy := true, useq := .first })).map
      (fun t => (statusWord t, t.trace)) = some (0x00000074, [.reset]) := by decide
/-- 2.3: START before OPEN. -/
theorem test_start_not_open :
    (nextOf (step (State.reset.withFetchWord 32 0x00000008))).map (fun t => (statusWord t, t.trace)) =
      some (0x00000044, [.reset]) := by decide

/-! ## Host window (95_test_vectors 2.2) -/

/-- 2.2 row 1: STATUS after reset. -/
theorem test_status_after_reset : readReg .status State.reset = 0x00000004 := by decide
/-- 2.2 row 5: bits 31:7 of SLAVE_ADDR are ignored. -/
theorem test_slave_addr_seven_bits :
    readReg .slaveAddr (writeReg .slaveAddr 0xA1 State.reset) = 0x00000021 := by decide
/-- 2.2 row 8: OPEN accepted, no controller step yet. -/
theorem test_status_after_accept :
    readReg .status (writeReg .cmd 0x00000001 State.reset) = 0x00000005 := by decide
/-- 2.2 row 12: a second command is dropped. -/
theorem test_command_lost :
    statusWord (writeReg .cmd 0x0000000A (accepted .start)) = 0x00000107 ∧
    (writeReg .cmd 0x0000000A (accepted .start)).cur = 0x00000008 := by decide
/-- 2.2 rows 14, 15: bit 8 alone clears CMD_LOST. -/
theorem test_w1c :
    (writeReg .status 0xFFFFFEFF { State.reset with cmdLost := true }).cmdLost = true ∧
    (writeReg .status 0x00000100 { State.reset with cmdLost := true }).cmdLost = false := by decide
/-- 2.2 row 10: locked after OPEN. -/
theorem test_config_locked :
    (writeReg .bitDelay 5 { State.reset with opened := true, bitDelay := 300 }).bitDelay = 300 := by decide
/-- 2.2 row 16: a 16-bit read, and a 32-bit read at offset 2, are refused. -/
theorem test_narrow_refused :
    hostAccess (.read (Config.base + 4) 2) State.reset = .refused .hostNarrowAccess ∧
    hostAccess (.read (Config.base + 2) 4) State.reset = .refused .hostNarrowAccess := by
  constructor <;> simp [hostAccess, fullWord]
/-- 20_memory R51: the first address after the window. -/
theorem test_outside_window :
    hostAccess (.read (Config.base + 0x20) 4) State.reset = .refused .hostOutsideWindow := by
  simp [hostAccess, regAt]
  decide
/-- 2.10: reset in the middle of SEND. -/
theorem test_reset_mid_send :
    (nextOf (step { atEntry (.send 0x42) 5 with drvSda := .drivingLow, sched := [.rst true] })).map
      (fun t => (statusWord t, t.bitDelay, t.trace)) = some (0x00000004, 0, [.reset]) := by decide
/-- 70_reset_and_hazards R200: while `rst` is asserted a CMD write is lost and STATUS reads 0x00000004. -/
theorem test_write_under_reset :
    hostWrite .cmd 0x0000000A { State.reset with rst := true } = { State.reset with rst := true } ∧
    readReg .status { State.reset with rst := true } = 0x00000004 := by decide
/-- R200: no controller step while `rst` is asserted, one again after its release. -/
theorem test_release_of_reset :
    (nextOf (step { accepted .start with rst := true })).map (fun t => t.useq) = some .first ∧
    (nextOf (step { accepted .start with rst := true, sched := [.rst false] })).map (fun t => t.rst) =
      some false := by decide
/-- `decodeTableWord` and `withFetchWord` agree on a word of the table. -/
theorem test_fetch_word :
    decodeTableWord 32 0x0000000A = some .stop ∧
    decode (State.reset.withFetchWord 32 0x0000000A).cur = .ok .stop := ⟨by rfl, by rfl⟩

/-! ## Witnesses: for each statement with hypotheses, a state that meets them -/

theorem witness_EncodeOfDecode : decode 0x0000A10B = .ok (.send 0xA1) := by rfl

theorem witness_reset_turn :
    ({ accepted .start with sched := [.rst true] } : State).rst = false ∧
    ({ accepted .start with sched := [.rst true] } : State).sched = .rst true :: [] := ⟨rfl, rfl⟩

/-- The other clauses: a state held in reset, with each kind of turn to come. -/
theorem witness_reset_held (ts : List Turn) :
    let s : State := { State.reset with rst := true, sched := ts }
    s.Inv ∧ s.rst = true ∧ s.sched = ts := by
  refine ⟨?_, rfl, rfl⟩
  constructor <;> simp [State.reset, holdReset]

theorem witness_CommandAcceptedWhenNotBusy :
    let s : State := { State.reset with sched := [.access (.write Config.base 4 8)] }
    s.sched = .access (.write Config.base 4 8) :: [] ∧ s.rst = false ∧ s.busy = false := ⟨rfl, rfl, rfl⟩

theorem witness_CommandDroppedWhenBusy :
    let s : State := { accepted .start with sched := [.access (.write Config.base 4 8)] }
    s.sched = .access (.write Config.base 4 8) :: [] ∧ s.rst = false ∧ s.busy = true := ⟨rfl, rfl, rfl⟩

/-- Both clauses, at both reserved offsets. -/
theorem witness_ReservedOffsets (off : Nat) (_ : off = 0x18 ∨ off = 0x1C) :
    ({ State.reset with sched := [.access (.read (Config.base + off) 4)] } : State).sched =
      .access (.read (Config.base + off) 4) :: [] ∧
    ({ State.reset with sched := [.access (.write (Config.base + off) 4 7)] } : State).sched =
      .access (.write (Config.base + off) 4 7) :: [] := ⟨rfl, rfl⟩

theorem witness_StatusAccesses :
    ({ accepted .start with sched := [.access (.read (Config.base + 0x04) 4)] } : State).sched =
      .access (.read (Config.base + 0x04) 4) :: [] ∧
    ({ accepted .start with sched := [.access (.write (Config.base + 0x04) 4 0x100)] } : State).sched =
      .access (.write (Config.base + 0x04) 4 0x100) :: [] := ⟨rfl, rfl⟩

/-- Clause 1 by an open session and by a busy one; clause 2 by the reset state. -/
theorem witness_ConfigurationLock (off : Nat) (_ : off = 0x0C ∨ off = 0x10 ∨ off = 0x14) :
    let a : List Turn := [.access (.write (Config.base + off) 4 9)]
    (({ State.reset with sched := a, opened := true } : State).sched = a ∧
      ({ State.reset with sched := a, opened := true } : State).opened = true) ∧
    (({ State.reset with sched := a, busy := true } : State).busy = true) ∧
    (({ State.reset with sched := a } : State).opened = false ∧
      ({ State.reset with sched := a } : State).busy = false) := ⟨⟨rfl, rfl⟩, rfl, rfl, rfl⟩

theorem witness_ReadsHaveNoSideEffect :
    let s : State := { accepted .start with sched := [.access (.read (Config.base + 0x14) 4)] }
    ((0x14 : Nat), (0x21 : Word)) ∈
      [((0x00 : Nat), (0 : Word)), (0x04, statusWord s), (0x08, s.rxdata.setWidth 32), (0x0C, s.bitDelay),
        (0x10, s.stretchTimeout), (0x14, s.slaveAddr.setWidth 32)] ∧
    s.sched = .access (.read (Config.base + 0x14) 4) :: [] := by
  refine ⟨?_, rfl⟩
  simp [accepted]

/-- An admitted access, a narrow one and a misaligned one. -/
theorem witness_Admission :
    (∃ j, j < 8 ∧ Config.base + 0x1C = Config.base + 4 * j) ∧ (2 : Nat) ≠ 4 ∧ (Config.base + 2) % 4 ≠ 0 := by
  refine ⟨⟨7, by decide, rfl⟩, by decide, by simp⟩

theorem witness_HostAccessMovesNoLine :
    let s : State := { accepted .start with sched := [.access (.read (Config.base + 0x04) 4)] }
    ∃ t, step s = .next t := by
  simp only [step, nextTurn, takeTurn, hostAccess, fullWord_base, regAtAddr_base]
  exact ⟨_, rfl⟩

theorem witness_StepRunsTheDecodedCommand :
    (accepted (.send 0x42)).rst = false ∧
    (accepted (.send 0x42)).busy = true ∧ decode (accepted (.send 0x42)).cur = .ok (.send 0x42) ∧
    (accepted (.send 0x42)).sched = [] ∧
    ({ accepted (.send 0x42) with sched := [.controller] } : State).sched = [.controller] :=
  ⟨rfl, rfl, rfl, rfl, rfl⟩

theorem witness_WaitsForACommand : State.reset.atRest := ⟨rfl, rfl⟩

theorem witness_IllegalWord :
    let s : State := { State.reset with busy := true, useq := .first, cur := 0x0000001B }
    s.rst = false ∧ s.busy = true ∧ s.sched = [] ∧ s.useq = .first ∧
    decode s.cur = .error .nonzeroUnusedBit ∧
    ({ s with sched := [.controller] } : State).sched = .controller :: [] :=
  ⟨rfl, rfl, rfl, rfl, rfl, rfl⟩

/-- One state for each of the three clauses. -/
theorem witness_AcceptanceChecks :
    (({ accepted .stop with opened := false } : State).useq = .first ∧ Instr.stop ≠ .openSession) ∧
    ((accepted .openSession).opened = true) ∧
    (({ accepted .openSession with opened := false, stretchTimeout := 0 } : State).stretchTimeout = 0) := by
  refine ⟨⟨rfl, by decide⟩, rfl, rfl⟩

/-- A session ready to open; both answers of INIT. -/
theorem witness_Open (b : Bool) :
    let s : State := { accepted .openSession with opened := false, initIn := [b] }
    s.useq = .first ∧ s.opened = false ∧ s.bitDelay ≠ 0 ∧ s.stretchTimeout ≠ 0 ∧
    s.initIn = b :: [] ∧ drawInit s = (b, { s with initIn := [] }) := by
  refine ⟨rfl, rfl, ?_, ?_, rfl, rfl⟩ <;> simp [accepted]

/-- DRIVE_LOW, RELEASE, DELAY, SENDA's first step and the rest of the statements over `ready` alone. -/
theorem witness_ready (i : Instr) : (accepted i).ready := ⟨rfl, rfl⟩

/-- READ of a driven line and of a released one. -/
theorem witness_ReadStoresTheSampledLevel :
    (let s : State := { accepted (.read .scl) with drvScl := .drivingLow }
     s.ready ∧ s.drv .scl = .drivingLow ∧ lineLevel .scl s = (.low, s)) ∧
    (let s : State := { accepted (.read .scl) with sclIn := [.high] }
     s.ready ∧ lineLevel .scl s = (.high, { s with sclIn := [] })) :=
  ⟨⟨⟨rfl, rfl⟩, rfl, rfl⟩, ⟨⟨rfl, rfl⟩, rfl⟩⟩

/-- LineLevel: a driven line, a released one with a level to come, and one with none. -/
theorem witness_LineLevel :
    ({ State.reset with drvSda := .drivingLow } : State).drv .sda = .drivingLow ∧
    (({ State.reset with sdaIn := [.low] } : State).drv .sda = .released ∧
      ({ State.reset with sdaIn := [.low] } : State).lineIn .sda = .low :: []) ∧
    State.reset.lineIn .sda = [] := ⟨rfl, ⟨rfl, rfl⟩, rfl⟩

/-- The gate of STOP (`T = 3`) at the two boundary values: `m = 2` succeeds, `m = 3` fails. -/
theorem witness_Gate (m : Nat) (_ : m = 2 ∨ m = 3) :
    let s : State := { atEntry .stop 3 with sclIn := heldFor m ++ [.low] }
    (commandOf .stop).micros[3]? = some .gatePoll ∧ s.useq = .pos 3 ∧ s.p = 0 ∧ s.drvScl = .released ∧
    s.sclIn = heldFor m ++ [.low] ∧ (m = 2 → m < s.stretchTimeout.toNat) ∧
    (m = 3 → s.stretchTimeout.toNat ≤ m) := by
  refine ⟨rfl, rfl, rfl, rfl, rfl, ?_, ?_⟩ <;> (intro h; subst h; decide)

/-- RAISE_SCL and STOP with the longest gate that succeeds. -/
theorem witness_RaiseSclAndStop (i : Instr) :
    let s : State := { accepted i with sclIn := heldFor 2 ++ [.low] }
    s.ready ∧ 2 < s.stretchTimeout.toNat ∧ s.sclIn = heldFor 2 ++ [.low] :=
  ⟨⟨rfl, rfl⟩, by show (2 : Nat) < 3; decide, rfl⟩

/-- A bus that is busy twice and then free (95_test_vectors 2.7 row 2). -/
theorem witness_BusFree (i : Instr) :
    let ps : List (Level × Level) := [(.high, .low), (.low, .high)]
    let s : State := { accepted i with
      sclIn := [.high, .low, .high, .low], sdaIn := [.low, .high, .high, .low] }
    s.ready ∧ s.drvScl = .released ∧ s.drvSda = .released ∧ ps.length < s.stretchTimeout.toNat ∧
    (.high, .high) ∉ ps ∧ s.sclIn = ps.map (·.1) ++ .high :: [.low] ∧
    s.sdaIn = ps.map (·.2) ++ .high :: [.low] :=
  ⟨⟨rfl, rfl⟩, rfl, rfl, by show (2 : Nat) < 3; decide, by decide, rfl, rfl⟩

/-- A bus that is busy at all three samples. -/
theorem witness_BusyBus (i : Instr) :
    let ps : List (Level × Level) := [(.high, .low), (.low, .high), (.low, .low)]
    let s : State := { accepted i with sclIn := [.high, .low, .low], sdaIn := [.low, .high, .low] }
    s.ready ∧ ps.length = s.stretchTimeout.toNat ∧ (.high, .high) ∉ ps ∧
    s.sclIn = ps.map (·.1) ++ [] ∧ s.sdaIn = ps.map (·.2) ++ [] :=
  ⟨⟨rfl, rfl⟩, rfl, by decide, rfl, rfl⟩

theorem witness_OwnDrive (i : Instr) :
    let s : State := { accepted i with drvScl := .drivingLow }
    s.ready ∧ s.drvScl = .drivingLow := ⟨⟨rfl, rfl⟩, rfl⟩

/-- A run of each condition command to a successful end, on a free bus. -/
theorem witness_ConditionEndStates :
    ∀ q ∈ [(Instr.busfree, 1), (.start, 4), (.restart, 6), (.stop, 6)],
      (nextOf (execFor q.1 q.2 { accepted q.1 with sclIn := [.high], sdaIn := [.high] })).map
        (fun t => (t.useq, t.err)) = some (.idle, .ok) := by decide

/-- Nine gates, the longest of which is held for `T - 1` samples. -/
theorem witness_SendRuns (i : Instr) :
    let ms := [0, 2, 0, 0, 1, 0, 0, 0]
    let s : State := { accepted i with sclIn := ms.flatMap heldFor ++ (heldFor 2 ++ []), sdaIn := [.low] }
    s.ready ∧ ms.length = 8 ∧ (∀ m ∈ ms, m < s.stretchTimeout.toNat) ∧ 2 < s.stretchTimeout.toNat ∧
    s.sclIn = ms.flatMap heldFor ++ (heldFor 2 ++ []) ∧ s.sdaIn = .low :: [] ∧
    sentByte s (.send 0x42) = some 0x42 ∧ sentByte s (.senda .read) = some 0x43 :=
  ⟨⟨rfl, rfl⟩, rfl, by show ∀ m ∈ [0, 2, 0, 0, 1, 0, 0, 0], m < 3; decide, by show (2 : Nat) < 3; decide,
    rfl, rfl, rfl, by show some (addressByte 0x21 .read) = some 0x43; decide⟩

/-- The samples of 0xA5 (95_test_vectors 2.8 row 10), with SDA released. -/
theorem witness_RecvRuns (i : Instr) :
    let bits : List (Nat × Level) := [(0, .high), (2, .low), (0, .high), (0, .low), (0, .low), (1, .high),
      (0, .low), (0, .high)]
    let s : State := { accepted i with
      sclIn := bits.flatMap (fun q => heldFor q.1) ++ (heldFor 0 ++ []), sdaIn := bits.map (·.2) ++ [] }
    s.ready ∧ s.drvSda = .released ∧ bits.length = 8 ∧ (∀ q ∈ bits, q.1 < s.stretchTimeout.toNat) ∧
    msbValue (bits.map (·.2)) = 0xA5 := by
  refine ⟨⟨rfl, rfl⟩, rfl, rfl, ?_, by decide⟩
  show ∀ q ∈ [(0, Level.high), (2, .low), (0, .high), (0, .low), (0, .low), (1, .high), (0, .low),
    (0, .high)], q.1 < 3
  decide

theorem witness_RecvWithSdaDriven (i : Instr) :
    let ms := [0, 2, 0, 0, 1, 0, 0, 0]
    let s : State := { accepted i with
      drvSda := .drivingLow, sclIn := ms.flatMap heldFor ++ (heldFor 2 ++ []) }
    s.ready ∧ s.drvSda = .drivingLow ∧ ms.length = 8 ∧ (∀ m ∈ ms, m < s.stretchTimeout.toNat) :=
  ⟨⟨rfl, rfl⟩, rfl, rfl, by show ∀ m ∈ [0, 2, 0, 0, 1, 0, 0, 0], m < 3; decide⟩

/-- The clock held at the first gate, and at the ninth. -/
theorem witness_HeldClock (i : Instr) (ms : List Nat) (_ : ms = [] ∨ ms = [0, 0, 0, 0, 0, 0, 0, 2]) :
    let s : State := { accepted i with
      sclIn := ms.flatMap heldFor ++ (List.replicate 3 .low ++ [.high]) }
    s.ready ∧ ms.length ≤ 8 ∧ (∀ m ∈ ms, m < s.stretchTimeout.toNat) ∧
    s.sclIn = ms.flatMap heldFor ++ (List.replicate s.stretchTimeout.toNat .low ++ [.high]) := by
  rcases ‹ms = [] ∨ ms = _› with h | h <;> subst h
  · exact ⟨⟨rfl, rfl⟩, by decide, by show ∀ m ∈ ([] : List Nat), m < 3; decide, rfl⟩
  · exact ⟨⟨rfl, rfl⟩, by decide, by show ∀ m ∈ [0, 0, 0, 0, 0, 0, 0, 2], m < 3; decide, rfl⟩

/-- Nine gates of any byte command; SDA is left to the environment's free values. -/
theorem witness_ByteCommandCounts (i : Instr) (_ : i = .send 0x42 ∨ i = .senda .read ∨ i = .recv .ack) :
    let ms := [0, 2, 0, 0, 1, 0, 0, 0]
    let s : State := { accepted i with sclIn := ms.flatMap heldFor ++ (heldFor 2 ++ []) }
    isByteCommand i = true ∧ s.ready ∧ ms.length = 8 ∧ (∀ m ∈ ms, m < s.stretchTimeout.toNat) ∧
    2 < s.stretchTimeout.toNat ∧ s.sclIn = ms.flatMap heldFor ++ (heldFor 2 ++ []) := by
  refine ⟨?_, ⟨rfl, rfl⟩, rfl, by show ∀ m ∈ [0, 2, 0, 0, 1, 0, 0, 0], m < 3; decide,
    by show (2 : Nat) < 3; decide, rfl⟩
  rcases ‹i = _ ∨ _› with h | h | h <;> subst h <;> rfl

/-- One state for each clause of LastStepWritesTheResult. -/
theorem witness_LastStep :
    (∀ q ∈ [(Instr.openSession, 2), (.start, 3), (.restart, 5), (.stop, 5), (.send 0x42, 12),
        (.senda .read, 12), (.recv .ack, 12)], (atEntry q.1 q.2).useq = .pos q.2) ∧
    (let s : State := { atEntry .raiseScl 1 with p := 2, sclIn := [.high] }
     s.useq = .pos 1 ∧ s.p ≠ s.stretchTimeout ∧ s.drvScl = .released ∧ s.sclIn = .high :: []) ∧
    (let s : State := { atEntry .busfree 0 with p := 2, sclIn := [.high], sdaIn := [.high] }
     s.useq = .pos 0 ∧ s.p ≠ s.stretchTimeout ∧ s.drvScl = .released ∧ s.drvSda = .released ∧
     s.sclIn = .high :: [] ∧ s.sdaIn = .high :: []) := by decide

/-- The state of `accepted i` meets all three invariants, with the inputs chosen at will. -/
theorem witness_Inv (i : Instr) (cs ds : List Level) (a : List Turn) :
    let s : State := { accepted i with sclIn := cs, sdaIn := ds, sched := a }
    s.Inv ∧ s.SdaHeld ∧ s.PollCounts := by
  refine ⟨?_, ?_, ?_⟩ <;> constructor <;> simp [accepted, State.reset, endsBusy]

/-- The first gate of SEND 0x42, with SDA driven low for bit 7. -/
def midSend : State :=
  { atEntry (.send 0x42) 3 with
    sr := 0x42, drvSda := .drivingLow, trace := [.rl .scl], sclIn := [.low] }

/-- The three invariants inside a command. -/
theorem witness_Inv_mid_send : midSend.Inv ∧ midSend.SdaHeld ∧ midSend.PollCounts := by
  have hi : ∀ i, decode midSend.cur = .ok i → i = .send 0x42 := by
    intro i h
    have h' : decode midSend.cur = .ok (.send 0x42) := by rfl
    rw [h'] at h; cases h; rfl
  have hn : ∀ n, midSend.useq = .pos n → n = 3 := by intro n h; cases h; rfl
  refine ⟨⟨?_, (fun h => by cases h), fun _ => rfl, fun _ => ?_, (fun h => by cases h), rfl, by decide, (fun h => by cases h), by decide,
    ?_, ?_, ?_⟩, ⟨?_, ?_, ?_⟩, ⟨?_, ?_, fun _ => rfl, ?_, ?_⟩⟩
  · exact ⟨fun _ => (fun h => by cases h), fun _ => rfl⟩
  · exact ⟨by decide, by decide⟩
  · intro n h; cases hn n h
    exact ⟨.send 0x42, rfl, by decide, (fun h => by cases h), fun _ => rfl⟩
  · intro n i h hd _; cases hn n h
    exact ⟨fun _ => by decide, fun h => absurd h (by decide)⟩
  · intro e h; cases h
  · intro n i b h hd hb; cases hn n h; cases hi i hd; cases hb
    exact ⟨rfl, fun _ _ => by decide⟩
  · intro n i b h _ _ h7; cases hn n h; exact absurd h7 (by decide)
  · intro n a h _ h7; cases hn n h; exact absurd h7 (by decide)
  · intro n i h hd hm; cases hn n h; cases hi i hd
    exact ⟨[], rfl⟩
  · intro h; cases h
  · intro n i h hd hm; cases hn n h; cases hi i hd; cases hm
  · intro h; cases h

/-- A step exists from it, after which it is still busy. -/
theorem witness_step_mid_send :
    midSend.busy = true ∧ (nextOf (step midSend)).map (fun t => t.busy) = some true := by decide

/-- BUSY rises with an accepted write and falls with the last step of a command. -/
theorem witness_BusySetByAcceptance :
    (let s : State := { State.reset with sched := [.access (.write Config.base 4 8)] }
     s.busy = false ∧ s.sched = .access (.write Config.base 4 8) :: []) ∧
    ((accepted .stop).busy = true ∧
      (nextOf (step { accepted .stop with opened := false })).map (fun t => (t.busy, t.useq)) =
        some (false, .idle)) := ⟨⟨rfl, rfl⟩, rfl, by decide⟩

/-- OPENED rises with the last step of OPEN and falls with a reset. -/
theorem witness_OpenedSetByOpen :
    (nextOf (step { atEntry .openSession 2 with opened := false })).map (fun t => t.opened) = some true ∧
    (nextOf (step { accepted .start with sched := [.rst true] })).map (fun t => t.opened) = some false := by
  decide

/-- Steps that write ACK, LEVEL and RXDATA: the last ones of SEND, READ and RECV. -/
theorem witness_ResultsWritten :
    (nextOf (step { atEntry (.send 0x42) 12 with ack := .high })).map (fun t => t.ack) = some .low ∧
    (nextOf (step { accepted (.read .sda) with sdaIn := [.high] })).map (fun t => t.level) = some .high ∧
    (nextOf (step { atEntry (.recv .nack) 12 with sr := 0xA5 })).map (fun t => t.rxdata) = some 0xA5 := by
  decide

/-- A command that a closed session turns away: the hypotheses of ErrorsAreTheCommandsOwn. -/
theorem witness_ErrorsAreTheCommandsOwn :
    let s : State := { State.reset with busy := true, useq := .first, cur := 0x0000000A }
    s.Inv ∧ s.busy = true ∧ (nextOf (step s)).map (fun t => t.err) = some .notOpen := by
  refine ⟨?_, rfl, by decide⟩
  constructor <;> simp [State.reset]

/-- A closed session at rest: the hypotheses of NoLineMovesBeforeOpen. -/
theorem witness_NoLineMovesBeforeOpen :
    State.reset.Inv ∧ State.reset.opened = false ∧ (nextOf (step State.reset)).isSome = true := by
  refine ⟨?_, rfl, by decide⟩
  constructor <;> simp [State.reset]

/-- A next state of `exec` for the frame statements, one command of each shape. -/
theorem witness_frames :
    ∀ i ∈ [Instr.openSession, .driveLow .scl, .release .sda, .read .scl, .delay 3, .raiseScl, .busfree,
        .start, .restart, .stop, .send 1, .senda .write, .recv .nack],
      decodeTableWord 32 (accepted i).cur.toNat = some i ∧
      (nextOf (exec i { accepted i with sclIn := [.low], sdaIn := [.low] })).isSome = true := by decide

end Sys2Proof.Tests
end

section

namespace Sys2Proof.Machine

/-! ## 00_scope: the level of a line -/

/-- Settles O25: the block's own drive decides between Low and a draw, and the input list decides where
the draw comes from. -/
theorem lineLevelIsWiredAnd : Obligations.LineLevelIsWiredAnd := by
  intro s l
  refine ⟨fun driven => lineLevel_driven driven, fun v vs released next => ?_, fun released empty => ?_⟩
  · rw [lineLevel_released released, drawLevel_cons next]
  · rw [lineLevel_released released, drawLevel_nil empty]

end Sys2Proof.Machine
end

section

/-!
What one step can be. `exec_cases` takes a controller step of a command apart, and `machineStep_of_step` a
step of the whole machine; proofs about steps start from the named cases of `ExecStep` and `MachineStep`.
-/

namespace Sys2Proof.Machine

/-! ## The micro-operation lists -/

@[simp] theorem micros_openSession : (commandOf .openSession).micros = [.init, .rl .scl, .rl .sda] := rfl
@[simp] theorem micros_driveLow (l : Line) : (commandOf (.driveLow l)).micros = [.dl l] := rfl
@[simp] theorem micros_release (l : Line) : (commandOf (.release l)).micros = [.rl l] := rfl
@[simp] theorem micros_read (l : Line) : (commandOf (.read l)).micros = [.readLevel l] := rfl
@[simp] theorem micros_delay (n : BitVec 16) : (commandOf (.delay n)).micros = [.wait (.units n)] := rfl
@[simp] theorem micros_raiseScl : (commandOf .raiseScl).micros = [.gateRelease, .gatePoll] := rfl
@[simp] theorem micros_busfree : (commandOf .busfree).micros = [.busPoll] := rfl
@[simp] theorem micros_start :
    (commandOf .start).micros = [.busPoll, .dl .sda, .wait .half, .dl .scl] := rfl
@[simp] theorem micros_restart : (commandOf .restart).micros =
    [.busPoll, .dl .sda, .wait .full, .dl .scl, .rl .sda, .wait .full] := rfl
@[simp] theorem micros_stop : (commandOf .stop).micros =
    [.dl .sda, .wait .step, .gateRelease, .gatePoll, .wait .step, .rl .sda] := rfl
@[simp] theorem micros_send (b : Byte) : (commandOf (.send b)).micros = sendMicros := rfl
@[simp] theorem micros_senda (rw : RwSel) : (commandOf (.senda rw)).micros = sendMicros := rfl
@[simp] theorem micros_recv (a : AckSel) : (commandOf (.recv a)).micros =
    [.wait .step, .gateRelease, .gatePoll, .wait .step, .recvBit, .lowerBit,
      ackChoice a, .wait .step, .gateRelease, .gatePoll, .wait .step, .dl .scl, .rl .sda] := rfl

/-- The commands whose lists have an entry: only OPEN asks the subsystem, only READ samples into LEVEL,
the poll loops stand where their error can be raised, the bit entries in the byte commands, and OPEN, which
has no check that the session is open, drives no line low. -/
def Micro.OwnedBy (i : Instr) : Micro → Prop
  | .init => i = .openSession
  | .dl _ | .wait _ => i ≠ .openSession
  | .rl _ => True
  | .readLevel l => i = .read l
  | .gateRelease | .gatePoll => pollError i = some .clockHeld
  | .busPoll => pollError i = some .busNotFree
  | .sendBit | .sampleAck => writesAck i = true
  | .recvBit => ∃ a, i = .recv a
  | .lowerBit => isByteCommand i = true

theorem ownedBy_of_mem {i : Instr} {m : Micro} (h : m ∈ (commandOf i).micros) : m.OwnedBy i := by
  revert m
  cases i
  case recv a =>
    cases a <;> simp [ackChoice, Micro.OwnedBy, pollError, isByteCommand]
  all_goals simp [sendMicros, Micro.OwnedBy, pollError, isByteCommand, writesAck]

theorem ownedBy_of_entry {i : Instr} {n : Nat} {m : Micro} (h : (commandOf i).micros[n]? = some m) :
    m.OwnedBy i :=
  ownedBy_of_mem (List.mem_of_getElem? h)

/-- The bit loop of a byte command closes at entry 5 (45_byte_transfer R161, R165). -/
theorem entry_five {i : Instr} (h : isByteCommand i = true) :
    (commandOf i).micros[5]? = some .lowerBit := by
  cases i <;> simp [isByteCommand, sendMicros] at h ⊢

/-- No other entry of a list lowers the clock at the end of a data bit. -/
theorem lowerBit_entry {i : Instr} {n : Nat} (h : (commandOf i).micros[n]? = some .lowerBit) : n = 5 := by
  have send : ∀ n < 13, sendMicros[n]? = some .lowerBit → n = 5 := by decide
  have recv : ∀ a, ∀ n < 13, (commandOf (.recv a)).micros[n]? = some .lowerBit → n = 5 := by
    intro a; cases a <;> decide
  have byte : isByteCommand i = true := ownedBy_of_entry h
  have short : n < (commandOf i).micros.length := (List.getElem?_eq_some_iff.mp h).1
  cases i <;> simp only [isByteCommand, Bool.false_eq_true] at byte
  case send b => exact send n short h
  case senda rw => exact send n short h
  case recv a => exact recv a n short h

/-- The last entry of SEND and SENDA, after which ACK is written (45_byte_transfer R160). -/
theorem last_entry_of_writesAck {i : Instr} {n : Nat} (h : writesAck i = true)
    (last : n + 1 = (commandOf i).micros.length) :
    n = 12 ∧ (commandOf i).micros[n]? = some (.dl .scl) := by
  cases i <;> simp only [writesAck, Bool.false_eq_true] at h
  all_goals
    obtain rfl : n = 12 := Nat.succ.inj last
    exact ⟨rfl, rfl⟩

/-! ## Where one entry sends the sequencer -/

/-- The entry that comes next after entry `n`, where the command goes on; the one after the last entry
stands for completion. -/
def Flow.entryAfter : Flow → Nat → Option Nat
  | .advance, n => some (n + 1)
  | .stay, n => some n
  | .again, _ => some 0
  | .fail _, _ => none

/-- Only a poll loop stays at its entry. -/
theorem runMicro_stay {m : Micro} {s : State} (h : (runMicro m s).1 = .stay) :
    m = .gatePoll ∨ m = .busPoll := by
  cases m <;> simp only [runMicro, initStep, lowerBit, reduceCtorEq] at h
  case init => split at h <;> cases h
  case gatePoll => exact .inl rfl
  case busPoll => exact .inr rfl
  case lowerBit => split at h <;> cases h

/-- Only the end of a data bit goes back to the first entry, and only while bits are left. -/
theorem runMicro_again {m : Micro} {s : State} (h : (runMicro m s).1 = .again) :
    m = .lowerBit ∧ s.k + 1 ≠ 8#4 := by
  cases m <;> simp only [runMicro, initStep, gatePoll, busPoll, reduceCtorEq] at h
  case init => split at h <;> cases h
  case gatePoll => split at h <;> (try split at h) <;> cases h
  case busPoll => split at h <;> (try split at h) <;> cases h
  case lowerBit => simpa [lowerBit] using h

/-- The error of a poll loop whose budget is used up (60_exceptions R182). -/
def Micro.loopError : Micro → Option ErrCode
  | .gatePoll => some .clockHeld
  | .busPoll => some .busNotFree
  | .init | .dl _ | .rl _ | .wait _ | .readLevel _ | .gateRelease | .sendBit | .recvBit | .lowerBit
  | .sampleAck => none

/-- A command whose list has a poll loop can raise the loop's error. -/
theorem pollError_of_loopError {i : Instr} {m : Micro} {e : ErrCode} (owned : m.OwnedBy i)
    (h : m.loopError = some e) : pollError i = some e := by
  cases m <;> simp only [Micro.loopError, reduceCtorEq] at h <;> exact h ▸ owned

/-- The abort release follows the errors of the poll loops (60_exceptions R184). -/
theorem aborts_of_loopError {m : Micro} {e : ErrCode} (h : m.loopError = some e) : e.aborts = true := by
  cases m <;> simp only [Micro.loopError, reduceCtorEq] at h <;> cases h <;> rfl

/-- INIT, and a poll loop whose budget is used up, are the entries that raise an error; the failing test of
a poll loop does nothing else. -/
theorem runMicro_fail {m : Micro} {s : State} {e : ErrCode} (h : (runMicro m s).1 = .fail e) :
    (m = .init ∧ e = .subsystemInitFailed) ∨
    (m.loopError = some e ∧ s.p = s.stretchTimeout ∧ (runMicro m s).2 = s) := by
  cases m <;> simp only [runMicro, lowerBit, reduceCtorEq] at h
  case init => left; dsimp only [initStep] at h; split at h <;> cases h; exact ⟨rfl, rfl⟩
  case gatePoll =>
    unfold gatePoll at h
    split at h
    · cases h; exact .inr ⟨rfl, ‹_›, by simp [runMicro, gatePoll, *]⟩
    · dsimp only at h; split at h <;> cases h
  case busPoll =>
    unfold busPoll at h
    split at h
    · cases h; exact .inr ⟨rfl, ‹_›, by simp [runMicro, busPoll, *]⟩
    · dsimp only at h; split at h <;> cases h
  case lowerBit => split at h <;> cases h

/-! ## The checks, and what a command writes before and after its list -/

theorem check_openSession : (commandOf .openSession).check = openCheck := rfl

theorem check_of_ne_openSession {i : Instr} (h : i ≠ .openSession) : (commandOf i).check = needsOpen := by
  cases i
  case openSession => exact absurd rfl h
  all_goals rfl

/-- A check (60_exceptions R181) answers with an error that no abort release follows. -/
theorem check_not_aborts {i : Instr} {s : State} {e : ErrCode} (h : (commandOf i).check s = some e) :
    e.aborts = false := by
  by_cases hi : i = .openSession
  · subst hi
    rw [check_openSession, openCheck] at h
    split at h
    · cases h; rfl
    · split at h <;> cases h; rfl
  · rw [check_of_ne_openSession hi, needsOpen] at h
    split at h <;> cases h
    rfl

/-- OPEN passes its checks in a closed session with its configuration set. -/
theorem openSession_passes {s : State} (h : (commandOf .openSession).check s = none) :
    s.opened = false ∧ s.bitDelay ≠ 0#32 ∧ s.stretchTimeout ≠ 0#32 := by
  rw [check_openSession, openCheck] at h
  split at h
  · cases h
  · split at h
    · cases h
    · simp_all

/-- Every other command passes in an open session. -/
theorem opened_of_passes {i : Instr} {s : State} (hi : i ≠ .openSession)
    (h : (commandOf i).check s = none) : s.opened = true := by
  rw [check_of_ne_openSession hi, needsOpen] at h
  split at h
  · assumption
  · cases h

/-- Before its list a command writes hidden registers only. -/
theorem prepare_frame (i : Instr) (s : State) :
    ∃ b k p, (commandOf i).prepare s = { s with sr := b, k := k, p := p } := by
  cases i <;> exact ⟨_, _, _, rfl⟩

/-- After its list a command writes OPENED, ACK or RXDATA, and no other state. -/
theorem finish_frame (i : Instr) (s : State) :
    ∃ o a r, (commandOf i).finish s = { s with opened := o, ack := a, rxdata := r } := by
  cases i <;> exact ⟨_, _, _, rfl⟩

theorem finish_opened {i : Instr} (s : State) (h : i ≠ .openSession) :
    ((commandOf i).finish s).opened = s.opened := by
  cases i
  case openSession => exact absurd rfl h
  all_goals rfl

theorem finish_ack_of_writesAck {i : Instr} (s : State) (h : writesAck i = true) :
    ((commandOf i).finish s).ack = s.ackLatch := by
  cases i
  case send | senda => rfl
  all_goals cases h

theorem finish_ack {i : Instr} (s : State) (h : writesAck i = false) :
    ((commandOf i).finish s).ack = s.ack := by
  cases i
  case send | senda => cases h
  all_goals rfl

theorem finish_rxdata {i : Instr} (s : State) (h : ∀ a, i ≠ .recv a) :
    ((commandOf i).finish s).rxdata = s.rxdata := by
  cases i
  case recv a => exact absurd rfl (h a)
  all_goals rfl

/-- The poll counter is cleared before a bus-free check, and otherwise left alone (44_conditions R140). -/
theorem prepare_p (i : Instr) (s : State) :
    ((commandOf i).prepare s).p = s.p ∨ ((commandOf i).prepare s).p = 0 := by
  cases i
  case busfree | start | restart => exact .inr rfl
  all_goals exact .inl rfl

theorem prepare_byteRegisters {i : Instr} (s : State) (h : isByteCommand i = false) :
    ((commandOf i).prepare s).sr = s.sr ∧ ((commandOf i).prepare s).k = s.k := by
  cases i
  case send | senda | recv => cases h
  all_goals exact ⟨rfl, rfl⟩

theorem prepare_k_of_byte {i : Instr} (s : State) (h : isByteCommand i = true) :
    ((commandOf i).prepare s).k = 0 := by
  cases i
  case send | senda | recv => rfl
  all_goals cases h

/-! ## One controller step of a command -/

/-- Command `i` runs entry `n` of its list in state `r`: at its first step, which has passed the checks
and made the command's first writes, or in the middle of its list. -/
inductive Enters (i : Instr) (s : State) : Nat → State → Prop
  | first (at_first : s.useq = .first) (passes : (commandOf i).check s = none) :
      Enters i s 0 ((commandOf i).prepare s)
  | inside {n : Nat} (at_entry : s.useq = .pos n) : Enters i s n s

/-- Everything a controller step of command `i` can make of `s`. -/
inductive ExecStep (i : Instr) (s : State) : State → Prop
  /-- A check turns the command away (60_exceptions R181). -/
  | turnedAway {e : ErrCode} (at_first : s.useq = .first) (refused : (commandOf i).check s = some e) :
      ExecStep i s (endCommand e s)
  /-- An entry runs, and the command goes on at an entry of its list. -/
  | goesOn {n n' : Nat} {m : Micro} {r : State} (enters : Enters i s n r)
      (entry : (commandOf i).micros[n]? = some m) (goes : (runMicro m r).1.entryAfter n = some n')
      (inList : n' < (commandOf i).micros.length) :
      ExecStep i s { (runMicro m r).2 with useq := .pos n' }
  /-- The last entry runs, and the command completes (60_exceptions R183). -/
  | completes {n : Nat} {m : Micro} {r : State} (enters : Enters i s n r)
      (entry : (commandOf i).micros[n]? = some m) (last : n + 1 = (commandOf i).micros.length)
      (flow : (runMicro m r).1 = .advance) :
      ExecStep i s (complete ((commandOf i).finish (runMicro m r).2))
  /-- The subsystem answers OPEN's INIT with a failure (40_open R101). -/
  | initFails {n : Nat} {r : State} (enters : Enters i s n r)
      (entry : (commandOf i).micros[n]? = some .init)
      (flow : (runMicro .init r).1 = .fail .subsystemInitFailed) :
      ExecStep i s (endCommand .subsystemInitFailed (runMicro .init r).2)
  /-- A poll loop has used up its budget, and the abort release begins (60_exceptions R184). -/
  | pollFails {n : Nat} {m : Micro} {r : State} {e : ErrCode} (enters : Enters i s n r)
      (entry : (commandOf i).micros[n]? = some m) (loop : m.loopError = some e)
      (spent : r.p = r.stretchTimeout) :
      ExecStep i s { release .scl r with useq := .abort e }
  /-- The abort release ends, and the command with it (60_exceptions R184). -/
  | abortEnds {e : ErrCode} (at_abort : s.useq = .abort e) : ExecStep i s (finishAbort e s)

/-- One step of the list, from the state in which the entry runs. -/
theorem execStep_of_microStep {i : Instr} {n : Nat} {s r t : State} (enters : Enters i s n r)
    (h : microStep (commandOf i) n r = .next t) : ExecStep i s t := by
  obtain ⟨m, u, entry, ⟨hm, hn, rfl⟩ | ⟨hm, hn, rfl⟩ | ⟨hm, rfl⟩ | ⟨hm, rfl⟩ | ⟨e, hm, rfl⟩⟩ :=
    microStep_cases h
  all_goals
    have short : n < (commandOf i).micros.length := (List.getElem?_eq_some_iff.mp entry).1
    obtain rfl : (runMicro m r).2 = u := by rw [hm]
  · exact .goesOn enters entry (by rw [hm]; rfl) hn
  · exact .completes enters entry (by omega) (by rw [hm])
  · exact .goesOn enters entry (by rw [hm]; rfl) short
  · exact .goesOn enters entry (by rw [hm]; rfl) (by omega)
  · obtain ⟨rfl, rfl⟩ | ⟨loop, spent, same⟩ := runMicro_fail (congrArg Prod.fst hm)
    · exact .initFails enters entry (by rw [hm])
    · rw [same, raiseError_aborts r (aborts_of_loopError loop)]
      exact .pollFails enters entry loop spent

/-- A controller step of a command is one of the cases of `ExecStep`. -/
theorem exec_cases {i : Instr} {s t : State} (h : exec i s = .next t) : ExecStep i s t := by
  rw [exec_eq_runCommand] at h
  obtain ⟨first, e, refused, rfl⟩ | ⟨first, passes, h⟩ | ⟨n, inside, h⟩ | ⟨e, abort, rfl⟩ :=
    runCommand_cases h
  · rw [raiseError_ends s (check_not_aborts refused)]; exact .turnedAway first refused
  · exact execStep_of_microStep (.first first passes) h
  · exact execStep_of_microStep (.inside inside) h
  · exact .abortEnds abort

/-- The state in which an entry runs differs from the state of the step in hidden registers only. -/
theorem Enters.frame {i : Instr} {n : Nat} {s r : State} (h : Enters i s n r) :
    ∃ b k p, r = { s with sr := b, k := k, p := p } := by
  cases h with
  | first => exact prepare_frame i s
  | inside => exact ⟨s.sr, s.k, s.p, rfl⟩

/-- An accepted illegal word (30_encoding R88) ends at its first step, and has no entry to run. -/
theorem execIllegal_cases {s t : State} (h : execIllegal s = .next t) :
    (s.useq = .first ∧ t = endCommand .illegalCommand s) ∨
    ∃ e, s.useq = .abort e ∧ t = finishAbort e s := by
  obtain ⟨first, e, refused, rfl⟩ | ⟨-, passes, -⟩ | ⟨n, -, h⟩ | ⟨e, abort, rfl⟩ := runCommand_cases h
  · cases refused; exact .inl ⟨first, raiseError_ends s rfl⟩
  · cases passes
  · cases h
  · exact .inr ⟨e, abort, rfl⟩

/-! ## One step of the whole machine -/

/-- The controller moves next, and `ts` are the turns after it (20_memory R62). -/
def State.ControllerNext (s : State) (ts : List Turn) : Prop :=
  s.sched = [] ∧ ts = [] ∨ s.sched = .controller :: ts

/-- Everything a step of the whole machine can make of `s`, whichever agent moves. -/
inductive MachineStep (s : State) : State → Prop
  /-- The controller waits, or is held in reset. -/
  | rests {ts : List Turn} (turn : s.ControllerNext ts) (quiet : s.rst = true ∨ s.busy = false) :
      MachineStep s { s with sched := ts }
  /-- The controller takes one step of the command in `cur`. -/
  | runs {ts : List Turn} {i : Instr} {t : State} (turn : s.ControllerNext ts) (released : s.rst = false)
      (busy : s.busy = true) (word : decode s.cur = .ok i) (step : ExecStep i { s with sched := ts } t) :
      MachineStep s t
  /-- The controller turns an illegal word away (30_encoding R88). -/
  | rejects {ts : List Turn} {w : IllegalWord} (turn : s.ControllerNext ts) (released : s.rst = false)
      (busy : s.busy = true) (word : decode s.cur = .error w) (at_first : s.useq = .first) :
      MachineStep s (endCommand .illegalCommand { s with sched := ts })
  /-- An abort release under an illegal word, which no state of a run has. -/
  | rejectedAborts {ts : List Turn} {w : IllegalWord} {e : ErrCode} (turn : s.ControllerNext ts)
      (released : s.rst = false) (busy : s.busy = true) (word : decode s.cur = .error w)
      (at_abort : s.useq = .abort e) : MachineStep s (finishAbort e { s with sched := ts })
  /-- The host reads a register (20_memory R58). -/
  | reads {ts : List Turn} {addr : Nat} {r : WinReg} (turn : s.sched = .access (.read addr 4) :: ts)
      (reg : regAtAddr addr = some r) :
      MachineStep s { s with sched := ts, reads := readReg r { s with sched := ts } :: s.reads }
  /-- The host writes a register (20_memory R56, R57, R59). -/
  | writes {ts : List Turn} {addr : Nat} {v : Word} {r : WinReg}
      (turn : s.sched = .access (.write addr 4 v) :: ts) (reg : regAtAddr addr = some r) :
      MachineStep s (hostWrite r v { s with sched := ts })
  /-- `rst` is asserted (70_reset_and_hazards R200). -/
  | resets {ts : List Turn} (turn : s.sched = .rst true :: ts) :
      MachineStep s (assertReset { s with sched := ts })
  /-- `rst` is released (70_reset_and_hazards R202). -/
  | resumes {ts : List Turn} (turn : s.sched = .rst false :: ts) :
      MachineStep s (releaseReset { s with sched := ts })

/-- The controller's turn, once it is known whose turn it is. -/
theorem machineStep_of_controllerTurn {s t : State} {ts : List Turn} (turn : s.ControllerNext ts)
    (h : controllerTurn { s with sched := ts } = .next t) : MachineStep s t := by
  obtain ⟨quiet, same⟩ | ⟨released, busy, i, word, same⟩ | ⟨released, busy, w, word, same⟩ :=
    controllerTurn_cases { s with sched := ts }
  all_goals rw [same] at h
  · cases h; exact .rests turn quiet
  · exact .runs turn released busy word (exec_cases h)
  · obtain ⟨first, rfl⟩ | ⟨e, abort, rfl⟩ := execIllegal_cases h
    · exact .rejects turn released busy word first
    · exact .rejectedAborts turn released busy word abort

/-- A step is one of the cases of `MachineStep`. -/
theorem machineStep_of_step {s t : State} (h : step s = .next t) : MachineStep s t := by
  obtain ⟨turn, same⟩ | ⟨ts, turn, same⟩ | ⟨a, ts, turn, same⟩ | ⟨ts, turn, same⟩ | ⟨ts, turn, same⟩ :=
    step_cases s
  all_goals rw [same] at h
  · have hs : { s with sched := [] } = s := by rw [← turn]
    exact machineStep_of_controllerTurn (.inl ⟨turn, rfl⟩) (by rw [hs]; exact h)
  · exact machineStep_of_controllerTurn (.inr turn) h
  · obtain ⟨addr, r, rfl, reg, rfl⟩ | ⟨addr, r, v, rfl, reg, rfl⟩ := hostAccess_cases h
    · exact .reads turn reg
    · exact .writes turn reg
  · cases h; exact .resets turn
  · cases h; exact .resumes turn

end Sys2Proof.Machine
end

section

/-!
The invariant of the machine (10_state R43, R48). `State.Settled` is the part of `State.Inv` that speaks of
no position of the sequencer, and `Executing` adds what holds where an entry of a command runs.
-/

namespace Sys2Proof.Machine

/-! ## What one entry does to the bounds, the lines and `init_req` -/

/-- A poll never takes `p` above `T` (10_state R43). -/
theorem runMicro_poll_le {s : State} (m : Micro) (h : s.p ≤ s.stretchTimeout) :
    (runMicro m s).2.p ≤ s.stretchTimeout := by
  cases m
  case gateRelease => simp only [runMicro]; bv_omega
  case gatePoll =>
    simp only [runMicro, gatePoll]
    split
    · exact h
    · simp only [sample_p]; bv_omega
  case busPoll =>
    simp only [runMicro, busPoll]
    split
    · exact h
    · simp only [sample2_p]; bv_omega
  all_goals rw [runMicro_p s (by simp) (by simp) (by simp)]; exact h

/-- INIT lowers `init_req` again before its step ends (40_open R101). -/
theorem runMicro_init_low {s : State} (m : Micro) (h : s.initReq = false) :
    (runMicro m s).2.initReq = false := by
  by_cases hm : m = .init
  · subst hm; exact initRequest_initReq s
  · rw [runMicro_initReq s hm]; exact h

@[simp] theorem runMicro_lowerBit_k (s : State) : (runMicro .lowerBit s).2.k = s.k + 1 := by
  simp [runMicro, lowerBit]

theorem runMicro_lowerBit_flow (s : State) :
    (runMicro .lowerBit s).1 = if s.k + 1 = 8#4 then .advance else .again := by
  simp [runMicro, lowerBit]

/-- The entries of OPEN. -/
theorem init_or_release_of_openSession {m : Micro} (h : m.OwnedBy .openSession) :
    m = .init ∨ ∃ l, m = .rl l := by
  cases m <;> simp [Micro.OwnedBy, pollError, writesAck, isByteCommand] at h ⊢

/-- Releasing a line touches no other line (00_scope R12). -/
theorem release_drv (l m : Line) (s : State) :
    (release l s).drv m = if m = l then .released else s.drv m := by
  cases l <;> cases m <;> rfl

/-- An entry of OPEN only ever releases lines, and leaves the poll counter and the environment's levels
alone (40_open R100). -/
theorem runMicro_openSession {m : Micro} (s : State) (h : m.OwnedBy .openSession) :
    (∀ l, (runMicro m s).2.drv l = s.drv l ∨ (runMicro m s).2.drv l = .released) ∧
    (runMicro m s).2.p = s.p ∧ (runMicro m s).2.sclIn = s.sclIn ∧ (runMicro m s).2.sdaIn = s.sdaIn := by
  obtain rfl | ⟨l, rfl⟩ := init_or_release_of_openSession h
  · refine ⟨fun l => .inl ?_, ?_, ?_, ?_⟩
    · cases l <;> simp [runMicro, initStep, State.drv]
    all_goals simp [runMicro, initStep]
  · refine ⟨fun m => ?_, ?_, ?_, ?_⟩
    · simp only [runMicro, release_drv]; split <;> simp
    all_goals simp [runMicro]

/-! ## The invariant apart from the position -/

/-- The part of `State.Inv` that speaks of no position of the sequencer, in a block out of reset. -/
structure State.Settled (s : State) : Prop where
  out_of_reset : s.rst = false
  configured : s.opened = true → s.bitDelay ≠ 0#32 ∧ s.stretchTimeout ≠ 0#32
  released_unopened : s.opened = false → s.drvScl = .released ∧ s.drvSda = .released
  init_low : s.initReq = false
  poll_le : s.p ≤ s.stretchTimeout
  poll_unopened : s.opened = false → s.p = 0
  bit_le : s.k ≤ 8#4

theorem State.Inv.settled {s : State} (h : s.Inv) (released : s.rst = false) : s.Settled :=
  { h with out_of_reset := released }

/-- In a block at rest the rest of the invariant holds of itself. -/
theorem State.Settled.inv_of_idle {s : State} (h : s.Settled) (idle : s.useq = .idle)
    (waiting : s.busy = false) : s.Inv :=
  { h with
    busy_iff := by simp [idle, waiting]
    reset_held := by simp [h.out_of_reset]
    err_clear := by simp [waiting]
    position := by simp [idle]
    bit_loop := by simp [idle]
    aborting := by simp [idle] }

/-- A command that ends, with whatever outcome, leaves the block at rest. -/
theorem State.Settled.inv_endCommand {s : State} (h : s.Settled) (e : ErrCode) : (endCommand e s).Inv :=
  State.Settled.inv_of_idle (s := endCommand e s) { h with } rfl rfl

/-- Acceptance (20_memory R56) leaves the block before the first step of the command. -/
theorem State.Settled.inv_acceptCommand {s : State} (h : s.Settled) (v : Word) :
    (acceptCommand v s).Inv :=
  { h with
    busy_iff := by simp
    reset_held := by simp [h.out_of_reset]
    err_clear := by simp
    position := by simp
    bit_loop := by simp
    aborting := by simp }

theorem State.Settled.after_release {s : State} (h : s.Settled) (l : Line) : (release l s).Settled := by
  cases l <;>
    exact { h with released_unopened := fun closed => by simp [release, h.released_unopened closed] }

/-- An entry of a command keeps the bounds and the lines of a closed session: only OPEN runs there, which
drives no line low and polls none. -/
theorem State.Settled.after_runMicro {i : Instr} {m : Micro} {s : State} (h : s.Settled)
    (owned : m.OwnedBy i) (opens : s.opened = false → i = .openSession) (bits : m = .lowerBit → s.k < 8#4) :
    (runMicro m s).2.Settled where
  out_of_reset := by simpa using h.out_of_reset
  configured := by simpa using h.configured
  released_unopened closed := by
    have closed : s.opened = false := by simpa using closed
    obtain ⟨scl, sda⟩ := h.released_unopened closed
    obtain ⟨drv, -⟩ := runMicro_openSession s (opens closed ▸ owned)
    exact ⟨by simpa [State.drv, scl] using drv .scl, by simpa [State.drv, sda] using drv .sda⟩
  init_low := runMicro_init_low m h.init_low
  poll_le := by simpa using runMicro_poll_le m h.poll_le
  poll_unopened closed := by
    have closed : s.opened = false := by simpa using closed
    obtain ⟨-, p, -⟩ := runMicro_openSession s (opens closed ▸ owned)
    rw [p, h.poll_unopened closed]
  bit_le := by
    by_cases hm : m = .lowerBit
    · have := bits hm
      subst hm
      rw [runMicro_lowerBit_k]; bv_omega
    · rw [runMicro_k s hm]; exact h.bit_le

/-! ## The invariant inside a command -/

/-- What holds of the state in which entry `n` of command `i` runs. -/
structure Executing (i : Instr) (n : Nat) (s : State) : Prop extends s.Settled where
  busy : s.busy = true
  err_clear : s.err = .ok
  word : decode s.cur = .ok i
  opening : i = .openSession → s.opened = false ∧ s.bitDelay ≠ 0#32 ∧ s.stretchTimeout ≠ 0#32
  opened : i ≠ .openSession → s.opened = true
  bit_loop : isByteCommand i = true → (n ≤ 5 → s.k < 8#4) ∧ (6 ≤ n → s.k = 8#4)

/-- An entry runs in a state that the invariant and the command's checks have prepared. -/
theorem State.Inv.executing {i : Instr} {n : Nat} {s r : State} (h : s.Inv) (released : s.rst = false)
    (busy : s.busy = true) (word : decode s.cur = .ok i) (enters : Enters i s n r) : Executing i n r := by
  cases enters with
  | first first passes =>
    obtain ⟨b, k, p, prepared⟩ := prepare_frame i s
    have poll : p = s.p ∨ p = 0 := by simpa [prepared] using prepare_p i s
    have bits : isByteCommand i = true → k = 0 := fun byte => by
      simpa [prepared] using prepare_k_of_byte s byte
    have no_bits : isByteCommand i = false → k = s.k := fun byte => by
      simpa [prepared] using (prepare_byteRegisters s byte).2
    rw [prepared]
    exact { h with
      out_of_reset := released
      poll_le := by
        obtain rfl | rfl := poll
        · exact h.poll_le
        · bv_omega
      poll_unopened := fun closed => poll.elim (·.trans (h.poll_unopened closed)) id
      bit_le := by
        cases byte : isByteCommand i with
        | true => simp [bits byte]
        | false => rw [no_bits byte]; exact h.bit_le
      busy, word
      err_clear := h.err_clear busy
      opening := by rintro rfl; exact openSession_passes passes
      opened := fun hi => opened_of_passes (s := s) hi passes
      bit_loop := fun byte => by simp [bits byte] }
  | inside inside =>
    obtain ⟨j, hj, -, opening, opened⟩ := h.position n inside
    obtain rfl : i = j := by rw [word] at hj; exact Except.ok.inj hj
    exact { h.settled released with
      busy, word, opening, opened, err_clear := h.err_clear busy, bit_loop := h.bit_loop n i inside word }

/-- The entry that runs keeps the bounds and the lines of a closed session. -/
theorem Executing.after_entry {i : Instr} {n : Nat} {m : Micro} {r : State} (h : Executing i n r)
    (entry : (commandOf i).micros[n]? = some m) : (runMicro m r).2.Settled :=
  h.after_runMicro (ownedBy_of_entry entry)
    (fun closed => by
      by_contra hi
      simp [h.opened hi] at closed)
    (fun hm => by
      subst hm
      exact (h.bit_loop (ownedBy_of_entry entry)).1 (lowerBit_entry entry).le)

/-- Where the command goes on, the invariant of its entries holds again: the bit loop is left exactly when
eight bits are done. -/
theorem Executing.goesOn {i : Instr} {n n' : Nat} {m : Micro} {r : State} (h : Executing i n r)
    (entry : (commandOf i).micros[n]? = some m) (goes : (runMicro m r).1.entryAfter n = some n') :
    Executing i n' (runMicro m r).2 :=
  { h.after_entry entry with
    busy := by simpa using h.busy
    err_clear := by simpa using h.err_clear
    word := by simpa using h.word
    opening := by simpa using h.opening
    opened := by simpa using h.opened
    bit_loop := fun byte => by
      obtain ⟨bits, done⟩ := h.bit_loop byte
      by_cases hm : m = .lowerBit
      · subst hm
        obtain rfl := lowerBit_entry entry
        have left : r.k < 8#4 := bits le_rfl
        rw [runMicro_lowerBit_flow] at goes
        rw [runMicro_lowerBit_k]
        split at goes <;> cases goes
        · exact ⟨fun h => absurd h (by decide), fun _ => ‹_›⟩
        · exact ⟨fun _ => by bv_omega, fun h => absurd h (by decide)⟩
      · have inside : n ≠ 5 := by
          rintro rfl
          rw [entry_five byte] at entry
          exact hm (Option.some.inj entry).symm
        rw [runMicro_k r hm]
        cases flow : (runMicro m r).1 <;> rw [flow] at goes
        case advance => cases goes; exact ⟨fun _ => bits (by omega), fun _ => done (by omega)⟩
        case stay => cases goes; exact ⟨bits, done⟩
        case again => exact absurd (runMicro_again flow).1 hm
        case fail => cases goes }

/-! ## The invariant after each kind of controller step -/

theorem Executing.inv_at {i : Instr} {n : Nat} {s : State} (h : Executing i n s)
    (inList : n < (commandOf i).micros.length) : ({ s with useq := .pos n } : State).Inv :=
  { h with
    busy_iff := by simp [h.busy]
    reset_held := by simp [h.out_of_reset]
    err_clear := fun _ => h.err_clear
    position := by
      rintro _ ⟨⟩
      exact ⟨i, h.word, inList, h.opening, h.opened⟩
    bit_loop := by
      rintro _ j ⟨⟩ hj byte
      obtain rfl : i = j := Except.ok.inj (h.word.symm.trans hj)
      exact h.bit_loop byte
    aborting := by rintro _ ⟨⟩ }

/-- The abort release begins only in an open session (60_exceptions R184). -/
theorem Executing.inv_abort {i : Instr} {n : Nat} {s : State} {e : ErrCode} (h : Executing i n s)
    (own : pollError i = some e) : ({ release .scl s with useq := .abort e } : State).Inv :=
  { h.after_release .scl with
    busy_iff := by simp [h.busy]
    reset_held := by simp [h.out_of_reset]
    err_clear := fun _ => by simpa using h.err_clear
    position := by rintro _ ⟨⟩
    bit_loop := by rintro _ _ ⟨⟩
    aborting := by
      rintro _ ⟨⟩
      have hi : i ≠ .openSession := by rintro rfl; cases own
      exact ⟨by simpa using h.opened hi, i, by simpa using h.word, own⟩ }

/-- The results of a command keep the bounds: OPEN opens the session with its configuration set. -/
theorem Executing.finish_settled {i : Instr} {n : Nat} {m : Micro} {r : State} (h : Executing i n r)
    (entry : (commandOf i).micros[n]? = some m) : ((commandOf i).finish (runMicro m r).2).Settled := by
  have after := h.after_entry entry
  by_cases hi : i = .openSession
  · subst hi
    obtain ⟨-, configured⟩ := h.opening rfl
    exact { after with
      configured := fun _ => by simpa [commandOf, openCommand] using configured
      released_unopened := by rintro ⟨⟩
      poll_unopened := by rintro ⟨⟩ }
  · obtain ⟨o, a, x, finished⟩ := finish_frame i (runMicro m r).2
    have same : o = (runMicro m r).2.opened := by simpa [finished] using finish_opened (runMicro m r).2 hi
    rw [finished, same]
    exact { after with }

/-- A controller step of the command in `cur` keeps the invariant. -/
theorem State.Inv.after_exec {i : Instr} {s t : State} (h : s.Inv) (released : s.rst = false)
    (busy : s.busy = true) (word : decode s.cur = .ok i) (step : ExecStep i s t) : t.Inv := by
  cases step with
  | turnedAway first refused => exact (h.settled released).inv_endCommand _
  | goesOn enters entry goes inList =>
    exact ((h.executing released busy word enters).goesOn entry goes).inv_at inList
  | completes enters entry last =>
    exact ((h.executing released busy word enters).finish_settled entry).inv_endCommand .ok
  | initFails enters entry =>
    exact ((h.executing released busy word enters).after_entry entry).inv_endCommand _
  | pollFails enters entry loop spent =>
    exact (h.executing released busy word enters).inv_abort
      (pollError_of_loopError (ownedBy_of_entry entry) loop)
  | abortEnds abort => exact ((h.settled released).after_release .sda).inv_endCommand _

/-! ## The invariant after a turn of another agent -/

/-- The turns to come and the data that the host has read are no part of the invariant. -/
theorem State.Inv.with_host {s : State} (h : s.Inv) (ts : List Turn) (ws : List Word) :
    ({ s with sched := ts, reads := ws } : State).Inv :=
  { h with
    reset_held := fun asserted =>
      congrArg (fun u : State => { u with sched := ts, reads := ws }) (h.reset_held asserted) }

/-- CMD_LOST is no part of the invariant out of reset. -/
theorem State.Inv.with_cmdLost {s : State} (h : s.Inv) (released : s.rst = false) (lost : Bool) :
    ({ s with cmdLost := lost } : State).Inv :=
  { h with reset_held := by simp [released] }

/-- The configuration is written only at rest in a closed session (10_state R42), where no poll has run. -/
theorem State.Inv.with_configuration {s : State} (h : s.Inv) (released : s.rst = false)
    (writable : configWritable s = true) (bd st : Word) (sa : BitVec 7) :
    ({ s with bitDelay := bd, stretchTimeout := st, slaveAddr := sa } : State).Inv := by
  obtain ⟨closed, waiting⟩ : s.opened = false ∧ s.busy = false := by
    simpa [configWritable] using writable
  have idle : s.useq = .idle := by
    by_contra running
    simp [h.busy_iff.mpr running] at waiting
  refine State.Settled.inv_of_idle
    { h with out_of_reset := released, configured := ?_, poll_le := ?_ } idle waiting
  · simp [closed]
  · simp only [h.poll_unopened closed]; bv_omega

/-- A write to a register (20_memory R56, R57, R59) keeps the invariant. -/
theorem State.Inv.after_writeReg {s : State} (h : s.Inv) (released : s.rst = false) (r : WinReg)
    (v : Word) : (writeReg r v s).Inv := by
  cases r with
  | cmd =>
    simp only [writeReg, writeCmd]
    split
    · exact h.with_cmdLost released true
    · exact (h.settled released).inv_acceptCommand v
  | status =>
    simp only [writeReg, writeStatus]
    split
    · exact h.with_cmdLost released false
    · exact h
  | rxdata | reserved => exact h
  | bitDelay | stretchTimeout | slaveAddr =>
    simp only [writeReg]
    split
    · exact h.with_configuration released ‹_› _ _ _
    · exact h

theorem State.Inv.after_hostWrite {s : State} (h : s.Inv) (r : WinReg) (v : Word) :
    (hostWrite r v s).Inv := by
  cases released : s.rst with
  | true => rw [hostWrite_of_asserted r v released]; exact h
  | false => rw [hostWrite_of_released r v released]; exact h.after_writeReg released r v

/-- An assertion of `rst` (70_reset_and_hazards R200) gives the values of R46, which meet the invariant. -/
theorem State.Inv.after_assertReset {s : State} (h : s.Inv) : (assertReset s).Inv := by
  cases released : s.rst with
  | true => rw [assertReset_of_asserted released]; exact h
  | false =>
    rw [assertReset_of_released released]
    constructor
    case reset_held => exact fun _ => rfl
    all_goals simp [State.reset]

theorem State.Inv.after_releaseReset {s : State} (h : s.Inv) : (releaseReset s).Inv :=
  { h with reset_held := by simp }

/-- A step of the whole machine keeps the invariant. -/
theorem MachineStep.keeps_inv {s t : State} (h : s.Inv) (step : MachineStep s t) : t.Inv := by
  have turned (ts : List Turn) : ({ s with sched := ts } : State).Inv := h.with_host ts s.reads
  cases step with
  | rests turn quiet => exact turned _
  | @runs ts i _ turn released busy word step => exact (turned ts).after_exec released busy word step
  | @rejects ts _ turn released busy word => exact ((turned ts).settled released).inv_endCommand _
  | @rejectedAborts ts _ _ turn released busy word abort =>
    exact (((turned ts).settled released).after_release .sda).inv_endCommand _
  | reads turn reg => exact h.with_host _ _
  | writes turn reg => exact (turned _).after_hostWrite _ _
  | resets turn => exact (turned _).after_assertReset
  | resumes turn => exact (turned _).after_releaseReset

/-! ## The obligations -/

/-- Settles O46: whichever agent moves, the case of `MachineStep` keeps every clause. -/
theorem everyStepKeepsTheInvariant : Obligations.EveryStepKeepsTheInvariant :=
  fun _ _ h step => (machineStep_of_step step).keeps_inv h

/-- Settles O45: at rest no clause about a position applies, and the trace ends in a RESET. -/
theorem resetMeetsTheInvariants : Obligations.ResetMeetsTheInvariants := by
  refine ⟨?inv, ?held, ?counts⟩
  case inv => constructor <;> simp [State.reset]
  case held => constructor <;> simp [State.reset]
  case counts => constructor <;> simp [State.reset, endsBusy]

end Sys2Proof.Machine
end

section

/-!
What steps leave unchanged (10_state R49): the frame of every command, the rules for the lines, OPENED, BUSY
and the result registers, and the frames of single commands.
-/

namespace Sys2Proof.Machine

/-! ## The frame of every command -/

/-- What command `i` leaves unchanged from `s` to `t` (10_state R49). -/
structure CommandFrame (i : Instr) (s t : State) : Prop where
  bitDelay : t.bitDelay = s.bitDelay
  stretchTimeout : t.stretchTimeout = s.stretchTimeout
  slaveAddr : t.slaveAddr = s.slaveAddr
  cmdLost : t.cmdLost = s.cmdLost
  cur : t.cur = s.cur
  sched : t.sched = s.sched
  reads : t.reads = s.reads
  rst : t.rst = s.rst
  session : i ≠ .openSession → t.opened = s.opened ∧ t.initReq = s.initReq ∧ t.initIn = s.initIn
  acknowledge : writesAck i = false → t.ack = s.ack ∧ t.ackLatch = s.ackLatch
  level : (∀ l, i ≠ .read l) → t.level = s.level
  rxdata : (∀ a, i ≠ .recv a) → t.rxdata = s.rxdata
  byteRegisters : isByteCommand i = false → t.sr = s.sr ∧ t.k = s.k

theorem CommandFrame.refl (i : Instr) (s : State) : CommandFrame i s s := by
  constructor <;> simp

theorem CommandFrame.trans {i : Instr} {s t u : State} (h : CommandFrame i s t) (g : CommandFrame i t u) :
    CommandFrame i s u where
  bitDelay := g.bitDelay.trans h.bitDelay
  stretchTimeout := g.stretchTimeout.trans h.stretchTimeout
  slaveAddr := g.slaveAddr.trans h.slaveAddr
  cmdLost := g.cmdLost.trans h.cmdLost
  cur := g.cur.trans h.cur
  sched := g.sched.trans h.sched
  reads := g.reads.trans h.reads
  rst := g.rst.trans h.rst
  session hi := by
    obtain ⟨o, r, b⟩ := g.session hi
    obtain ⟨o', r', b'⟩ := h.session hi
    exact ⟨o.trans o', r.trans r', b.trans b'⟩
  acknowledge hi := by
    obtain ⟨a, l⟩ := g.acknowledge hi
    obtain ⟨a', l'⟩ := h.acknowledge hi
    exact ⟨a.trans a', l.trans l'⟩
  level hi := (g.level hi).trans (h.level hi)
  rxdata hi := (g.rxdata hi).trans (h.rxdata hi)
  byteRegisters hi := by
    obtain ⟨r, k⟩ := g.byteRegisters hi
    obtain ⟨r', k'⟩ := h.byteRegisters hi
    exact ⟨r.trans r', k.trans k'⟩

/-- The frame says nothing of the lines, ERR, BUSY, `useq` and the trace. -/
theorem CommandFrame.endCommand {i : Instr} {s t : State} (h : CommandFrame i s t) (e : ErrCode) :
    CommandFrame i s (endCommand e t) := { h with }

theorem CommandFrame.with_useq {i : Instr} {s t : State} (h : CommandFrame i s t) (u : USeq) :
    CommandFrame i s { t with useq := u } := { h with }

theorem CommandFrame.release {i : Instr} {s t : State} (h : CommandFrame i s t) (l : Line) :
    CommandFrame i s (release l t) := by
  cases l <;> exact { h with }

/-- The first writes of a command. -/
theorem Enters.commandFrame {i : Instr} {n : Nat} {s r : State} (h : Enters i s n r) :
    CommandFrame i s r := by
  cases h with
  | first =>
    obtain ⟨b, k, p, prepared⟩ := prepare_frame i s
    have bytes := prepare_byteRegisters (i := i) s
    rw [prepared] at bytes ⊢
    exact { CommandFrame.refl i s with byteRegisters := bytes }
  | inside => exact .refl i s

/-- An entry of the command's list. -/
theorem commandFrame_runMicro {i : Instr} {m : Micro} (s : State) (owned : m.OwnedBy i) :
    CommandFrame i s (runMicro m s).2 where
  bitDelay := runMicro_bitDelay m s
  stretchTimeout := runMicro_stretchTimeout m s
  slaveAddr := runMicro_slaveAddr m s
  cmdLost := runMicro_cmdLost m s
  cur := runMicro_cur m s
  sched := runMicro_sched m s
  reads := runMicro_reads m s
  rst := runMicro_rst m s
  session hi := by
    have hm : m ≠ .init := by rintro rfl; exact hi owned
    exact ⟨runMicro_opened m s, runMicro_initReq s hm, runMicro_initIn s hm⟩
  acknowledge hi := by
    have hm : m ≠ .sampleAck := by rintro rfl; exact absurd (hi.symm.trans owned) (by decide)
    exact ⟨runMicro_ack m s, runMicro_ackLatch s hm⟩
  level hi := runMicro_level s (by rintro l rfl; exact hi l owned)
  rxdata _ := runMicro_rxdata m s
  byteRegisters hi := by
    have hb : m ≠ .recvBit := by rintro rfl; obtain ⟨a, rfl⟩ := owned; cases hi
    have hk : m ≠ .lowerBit := by rintro rfl; exact absurd (hi.symm.trans owned) (by decide)
    exact ⟨runMicro_sr s hb, runMicro_k s hk⟩

/-- The results of a command. -/
theorem commandFrame_finish (i : Instr) (s : State) : CommandFrame i s ((commandOf i).finish s) := by
  obtain ⟨o, a, r, finished⟩ := finish_frame i s
  have opened := finish_opened (i := i) s
  have ack := finish_ack (i := i) s
  have rxdata := finish_rxdata (i := i) s
  rw [finished] at opened ack rxdata ⊢
  exact { CommandFrame.refl i s with
    session := fun hi => ⟨opened hi, rfl, rfl⟩
    acknowledge := fun hi => ⟨ack hi, rfl⟩
    rxdata := rxdata }

/-- The state after the entry that runs in a step. -/
theorem Enters.commandFrame_entry {i : Instr} {n : Nat} {m : Micro} {s r : State} (h : Enters i s n r)
    (entry : (commandOf i).micros[n]? = some m) : CommandFrame i s (runMicro m r).2 :=
  h.commandFrame.trans (commandFrame_runMicro r (ownedBy_of_entry entry))

theorem ExecStep.commandFrame {i : Instr} {s t : State} (step : ExecStep i s t) : CommandFrame i s t := by
  cases step with
  | turnedAway => exact (CommandFrame.refl i s).endCommand _
  | goesOn enters entry => exact (enters.commandFrame_entry entry).with_useq _
  | completes enters entry =>
    exact ((enters.commandFrame_entry entry).trans (commandFrame_finish i _)).endCommand .ok
  | initFails enters entry => exact (enters.commandFrame_entry entry).endCommand _
  | pollFails enters => exact (enters.commandFrame.release .scl).with_useq _
  | abortEnds => exact ((CommandFrame.refl i s).release .sda).endCommand _

/-- Settles O58: every part of a step keeps the frame. -/
theorem frameOfEveryCommand : Obligations.FrameOfEveryCommand := by
  intro i s t step
  have h := (exec_cases step).commandFrame
  exact ⟨h.bitDelay, h.stretchTimeout, h.slaveAddr, h.cmdLost, h.cur, h.sched, h.reads, h.rst, h.session,
    h.acknowledge, h.level, h.rxdata, h.byteRegisters⟩

/-! ## The lines (10_state R22) -/

/-- From `s` to `t` at most one event is added, and the drive state of line `l` changes only with its own DL
or RL. -/
def DriveTraced (l : Line) (s t : State) : Prop :=
  (t.trace = s.trace ∨ ∃ e, t.trace = e :: s.trace) ∧
  (t.drv l = s.drv l ∨ (t.drv l = .drivingLow ∧ t.trace = .dl l :: s.trace) ∨
    (t.drv l = .released ∧ t.trace = .rl l :: s.trace))

theorem DriveTraced.of_same {l : Line} {s t : State} (scl : t.drvScl = s.drvScl) (sda : t.drvSda = s.drvSda)
    (trace : t.trace = s.trace) : DriveTraced l s t :=
  ⟨.inl trace, .inl (by cases l <;> assumption)⟩

theorem Enters.driveTraced_entry {i : Instr} {n : Nat} {s r : State} (h : Enters i s n r) (m : Micro)
    (l : Line) : DriveTraced l s (runMicro m r).2 := by
  obtain ⟨b, k, p, rfl⟩ := h.frame
  exact runMicro_drive m { s with sr := b, k := k, p := p } l

/-- A controller step of a command moves a line only with an event of its own. -/
theorem ExecStep.driveTraced {i : Instr} {s t : State} (step : ExecStep i s t) (l : Line) :
    DriveTraced l s t := by
  cases step with
  | turnedAway => exact .of_same rfl rfl rfl
  | @goesOn n n' m r enters => exact enters.driveTraced_entry m l
  | @completes n m r enters =>
    obtain ⟨o, a, x, finished⟩ := finish_frame i (runMicro m r).2
    rw [finished]
    exact enters.driveTraced_entry m l
  | initFails enters => exact enters.driveTraced_entry .init l
  | pollFails enters => exact enters.driveTraced_entry (.rl .scl) l
  | abortEnds => exact runMicro_drive (.rl .sda) s l

/-- A host write moves no line and adds no event (20_memory R59). -/
theorem driveTraced_hostWrite (r : WinReg) (v : Word) (s : State) (l : Line) :
    DriveTraced l s (hostWrite r v s) := by
  obtain ⟨_, _, _, _, _, _, _, _, written⟩ := hostWrite_frame r v s
  rw [written]
  exact .of_same rfl rfl rfl

/-- An assertion of `rst` releases both lines with its RESET event, or changes nothing. -/
theorem assertReset_drive (s : State) (l : Line) :
    assertReset s = s ∨
    ((assertReset s).drv l = .released ∧ (assertReset s).trace = .reset :: s.trace) := by
  cases released : s.rst with
  | true => exact .inl (assertReset_of_asserted released)
  | false =>
    rw [assertReset_of_released released]
    exact .inr ⟨by cases l <;> rfl, rfl⟩

/-- Short of an assertion of `rst` a step moves a line only with its own DL or RL. -/
theorem MachineStep.driveTraced {s t : State} (step : MachineStep s t) (l : Line) :
    DriveTraced l s t ∨ (t.drv l = .released ∧ t.trace = .reset :: s.trace) := by
  cases step with
  | rests | rejects | reads | resumes => exact .inl (.of_same rfl rfl rfl)
  | runs _ _ _ _ step => exact .inl (step.driveTraced l)
  | rejectedAborts => exact .inl (runMicro_drive (.rl .sda) s l)
  | @writes ts _ v r => exact .inl (driveTraced_hostWrite r v { s with sched := ts } l)
  | @resets ts =>
    obtain same | released := assertReset_drive { s with sched := ts } l
    · rw [same]; exact .inl (.of_same rfl rfl rfl)
    · exact .inr released

/-- Settles O50: only DL, RL and RESET move a line, each with its event. -/
theorem driveStateFollowsTheTrace : Obligations.DriveStateFollowsTheTrace := by
  intro s t l step
  obtain ⟨events, same | low | high⟩ | reset := (machineStep_of_step step).driveTraced l
  · exact ⟨events, .inl same⟩
  · exact ⟨events, .inr (.inl low)⟩
  · exact ⟨events, .inr (.inr (.inl high))⟩
  · exact ⟨.inr ⟨_, reset.2⟩, .inr (.inr (.inr reset))⟩

/-! ## OPENED (10_state R30) -/

/-- An entry after the first runs in the state of the step. -/
theorem Enters.inside_of_pos {i : Instr} {n : Nat} {s r : State} (h : Enters i s n r) (hn : 0 < n) :
    s.useq = .pos n ∧ r = s := by
  cases h with
  | first => exact absurd hn (lt_irrefl 0)
  | inside at_entry => exact ⟨at_entry, rfl⟩

/-- OPENED is written only by the last step of an OPEN that completes (40_open R100). -/
theorem ExecStep.opened {i : Instr} {s t : State} (step : ExecStep i s t) :
    t.opened = s.opened ∨
    (i = .openSession ∧ s.useq = .pos 2 ∧ t.opened = true ∧ t.err = .ok ∧ t.busy = false) := by
  by_cases hi : i = .openSession
  · subst hi
    cases step with
    | completes enters entry last =>
      obtain rfl := Nat.succ.inj last
      exact .inr ⟨rfl, (enters.inside_of_pos (by decide)).1, rfl, rfl, rfl⟩
    | goesOn enters | initFails enters | pollFails enters =>
      obtain ⟨_, _, _, rfl⟩ := enters.frame
      exact .inl (by simp)
    | turnedAway | abortEnds => exact .inl (by simp [finishAbort])
  · exact .inl (step.commandFrame.session hi).1

/-- Settles O51: of all steps only OPEN's last one and an assertion of `rst` write OPENED. -/
theorem openedSetByOpenClearedByReset : Obligations.OpenedSetByOpenClearedByReset := by
  intro s t step
  cases machineStep_of_step step with
  | rests | reads | resumes | rejects | rejectedAborts =>
    constructor <;> (intro before after; simp [finishAbort, before] at after)
  | runs turn released busy word step =>
    obtain same | ⟨rfl, last, opened, ok, done⟩ := step.opened
    · constructor <;> (intro before after; simp [same, before] at after)
    · exact ⟨fun _ _ => ⟨busy, word, last, ok, done⟩, fun _ closed => by simp [opened] at closed⟩
  | @writes ts _ v r =>
    obtain ⟨_, _, _, _, _, _, _, _, written⟩ := hostWrite_frame r v { s with sched := ts }
    rw [written]
    constructor <;> (intro before after; simp [before] at after)
  | @resets ts turn =>
    refine ⟨fun before after => ?_, fun _ _ => ⟨ts, turn⟩⟩
    cases released : s.rst <;> simp [assertReset, released, before, State.reset] at after

/-! ## BUSY (10_state R29) -/

/-- A controller step of a busy block ends its command, with BUSY and `useq` written together, or leaves
BUSY alone. -/
theorem ExecStep.busy {i : Instr} {s t : State} (step : ExecStep i s t) :
    (t.busy = false ∧ t.useq = .idle) ∨ (t.busy = s.busy ∧ t.useq ≠ .idle) := by
  cases step with
  | turnedAway | completes | initFails | abortEnds => exact .inl ⟨rfl, rfl⟩
  | goesOn enters | pollFails enters =>
    obtain ⟨_, _, _, rfl⟩ := enters.frame
    exact .inr ⟨by simp, by simp⟩

/-- A write to any register but CMD leaves BUSY and `useq` alone (20_memory R59). -/
theorem writeReg_sequencer {r : WinReg} (v : Word) (s : State) (h : r ≠ .cmd) :
    (writeReg r v s).busy = s.busy ∧ (writeReg r v s).useq = s.useq := by
  cases r with
  | cmd => exact absurd rfl h
  | rxdata | reserved => exact ⟨rfl, rfl⟩
  | status => simp only [writeReg, writeStatus]; split <;> exact ⟨rfl, rfl⟩
  | bitDelay | stretchTimeout | slaveAddr => simp only [writeReg]; split <;> exact ⟨rfl, rfl⟩

/-- A write to CMD leaves the block busy: it is accepted (20_memory R56) or dropped (R57). -/
theorem writeCmd_sequencer (v : Word) (s : State) :
    (writeCmd v s).busy = true ∧ ((writeCmd v s).useq = s.useq ∨ (writeCmd v s).useq = .first) := by
  unfold writeCmd
  split
  · exact ⟨‹_›, .inl rfl⟩
  · exact ⟨rfl, .inr rfl⟩

/-- BUSY after a host write: a write to CMD sets it while `rst` is released. -/
theorem hostWrite_busy (r : WinReg) (v : Word) (s : State) :
    (hostWrite r v s).busy = true ↔ s.busy = true ∨ (s.rst = false ∧ r = .cmd) := by
  cases hr : s.rst with
  | true => simp [hostWrite_of_asserted r v hr]
  | false =>
    rw [hostWrite_of_released r v hr]
    by_cases hc : r = .cmd
    · subst hc; simpa [writeReg] using (writeCmd_sequencer v s).1
    · simp [(writeReg_sequencer v s hc).1, hc]

/-- A host write leaves `useq` alone or accepts a command. -/
theorem hostWrite_useq (r : WinReg) (v : Word) (s : State) :
    (hostWrite r v s).useq = s.useq ∨ (hostWrite r v s).useq = .first := by
  cases hr : s.rst with
  | true => exact .inl (by rw [hostWrite_of_asserted r v hr])
  | false =>
    rw [hostWrite_of_released r v hr]
    by_cases hc : r = .cmd
    · subst hc; exact (writeCmd_sequencer v s).2
    · exact .inl (writeReg_sequencer v s hc).2

/-- Only CMD stands at offset 0 of the window (20_memory R51). -/
theorem regAt_eq_cmd {off : Nat} (h : regAt off = some .cmd) : off = 0 := by
  unfold regAt at h
  split at h <;> cases h
  rfl

theorem regAtAddr_eq_cmd {addr : Nat} (h : regAtAddr addr = some .cmd) : addr = Config.base := by
  unfold regAtAddr at h
  split at h
  · have := regAt_eq_cmd h; omega
  · cases h

/-- No step but an accepted CMD write sets BUSY. -/
theorem MachineStep.busy_rises {s t : State} (step : MachineStep s t) (before : s.busy = false) :
    t.busy = true ↔ s.rst = false ∧ ∃ v ts, s.sched = .access (.write Config.base 4 v) :: ts := by
  cases step with
  | runs _ _ busy | rejects _ _ busy | rejectedAborts _ _ busy => simp [before] at busy
  | rests turn => obtain ⟨none, -⟩ | next := turn <;> simp [*]
  | reads turn => simp [turn, before]
  | resumes turn => simp [turn, before]
  | @resets ts turn => cases released : s.rst <;> simp [assertReset, before, turn, State.reset]
  | writes turn reg =>
    rw [hostWrite_busy]
    constructor
    · rintro (busy | ⟨released, rfl⟩)
      · simp [before] at busy
      · exact ⟨released, _, _, regAtAddr_eq_cmd reg ▸ turn⟩
    · rintro ⟨released, v, ts, write⟩
      rw [turn] at write
      cases write
      rw [regAtAddr_base_self] at reg
      exact .inr ⟨released, (Option.some.inj reg).symm⟩

/-- BUSY falls at the controller step that ends the command, or at a reset. -/
theorem MachineStep.busy_falls {s t : State} (step : MachineStep s t) (before : s.busy = true)
    (after : t.busy = false) : (∃ ts, s.sched = .rst true :: ts) ∨
      (t.useq = .idle ∧ (s.sched = [] ∨ ∃ ts, s.sched = .controller :: ts)) := by
  have turns {ts : List Turn} (turn : s.ControllerNext ts) :
      s.sched = [] ∨ ∃ ts, s.sched = .controller :: ts := turn.imp And.left (⟨ts, ·⟩)
  cases step with
  | rests | reads | resumes => simp [before] at after
  | runs turn _ _ _ step =>
    obtain ⟨-, idle⟩ | ⟨same, -⟩ := step.busy
    · exact .inr ⟨idle, turns turn⟩
    · simp [same, before] at after
  | rejects turn | rejectedAborts turn => exact .inr ⟨rfl, turns turn⟩
  | writes => simp [hostWrite_busy, before, ← Bool.not_eq_true] at after
  | resets turn => exact .inl ⟨_, turn⟩

/-- A step that makes `useq` Idle clears BUSY. -/
theorem MachineStep.idle_clears_busy {s t : State} (step : MachineStep s t) (before : s.useq ≠ .idle)
    (after : t.useq = .idle) : t.busy = false := by
  cases step with
  | rests | reads | resumes => exact absurd after before
  | runs _ _ _ _ step =>
    obtain ⟨done, -⟩ | ⟨-, running⟩ := step.busy
    · exact done
    · exact absurd after running
  | rejects | rejectedAborts => rfl
  | @writes ts _ v r =>
    obtain same | first := hostWrite_useq r v { s with sched := ts }
    · exact absurd (same.symm.trans after) before
    · simp [first] at after
  | resets =>
    cases released : s.rst with
    | true => simp [assertReset, released, before] at after
    | false => simp [assertReset, State.reset]

/-- Settles O54: BUSY is written by acceptance, by the end of a command and by reset. -/
theorem busySetByAcceptanceClearedByCompletion : Obligations.BusySetByAcceptanceClearedByCompletion :=
  fun _ _ step =>
    have moves := machineStep_of_step step
    ⟨moves.busy_rises, moves.busy_falls, moves.idle_clears_busy⟩

/-! ## Commands of one micro-operation -/

/-- A command of one entry that has no poll loop ends in every step, at a check, with its entry, or with the
abort release that no state of a run has. -/
theorem ExecStep.of_single {i : Instr} {m : Micro} {s t : State} (step : ExecStep i s t)
    (list : (commandOf i).micros = [m]) (keeps : (commandOf i).prepare s = s)
    (noPoll : pollError i = none) :
    (∃ e, t = endCommand e s) ∨ t = complete ((commandOf i).finish (runMicro m s).2) ∨
    ∃ e, s.useq = .abort e ∧ t = finishAbort e s := by
  have only {n : Nat} {m' : Micro} (entry : (commandOf i).micros[n]? = some m') : n = 0 ∧ m' = m := by
    rw [list] at entry
    cases n <;> simp_all
  cases step with
  | turnedAway => exact .inl ⟨_, rfl⟩
  | @goesOn n n' m' r enters entry goes inList =>
    obtain ⟨rfl, rfl⟩ := only entry
    have owned := ownedBy_of_entry entry
    rw [list] at inList
    cases flow : (runMicro m' r).1 <;> rw [flow] at goes <;> cases goes
    · simp at inList
    · obtain rfl | rfl := runMicro_stay flow <;> cases noPoll.symm.trans owned
    · cases lowerBit_entry ((runMicro_again flow).1 ▸ entry)
  | completes enters entry =>
    obtain ⟨rfl, rfl⟩ := only entry
    cases enters with
    | first => rw [keeps]; exact .inr (.inl rfl)
    | inside => exact .inr (.inl rfl)
  | initFails enters entry =>
    obtain rfl : i = .openSession := ownedBy_of_entry entry
    simp at list
  | pollFails enters entry loop =>
    cases noPoll.symm.trans (pollError_of_loopError (ownedBy_of_entry entry) loop)
  | abortEnds abort => exact .inr (.inr ⟨_, abort, rfl⟩)

/-! ## The result registers (10_state R31, R32, R38) -/

/-- ACK is written by the last step of SEND and SENDA (45_byte_transfer R160). -/
theorem ExecStep.ack {i : Instr} {s t : State} (step : ExecStep i s t) :
    t.ack = s.ack ∨ (t.err = .ok ∧ t.busy = false ∧ t.ack = s.ackLatch ∧ writesAck i = true) := by
  cases writes : writesAck i with
  | false => exact .inl (step.commandFrame.acknowledge writes).1
  | true =>
    cases step with
    | turnedAway | abortEnds => exact .inl (by simp [finishAbort])
    | goesOn enters | initFails enters | pollFails enters =>
      obtain ⟨_, _, _, rfl⟩ := enters.frame
      exact .inl (by simp)
    | @completes n m r enters entry last =>
      obtain ⟨rfl, dl⟩ := last_entry_of_writesAck writes last
      obtain rfl : .dl .scl = m := Option.some.inj (dl.symm.trans entry)
      obtain ⟨-, rfl⟩ := enters.inside_of_pos (by decide)
      exact .inr ⟨rfl, rfl, (finish_ack_of_writesAck _ writes).trans (runMicro_ackLatch r (by simp)), rfl⟩

/-- LEVEL is written by READ's one step, with the level it samples (41_line_driver R112). -/
theorem ExecStep.level {i : Instr} {s t : State} (step : ExecStep i s t) :
    t.level = s.level ∨
    (t.err = .ok ∧ t.busy = false ∧ ∃ l, i = .read l ∧ t.trace = .sample l t.level :: s.trace) := by
  by_cases reads : ∃ l, i = .read l
  · obtain ⟨l, rfl⟩ := reads
    obtain ⟨e, rfl⟩ | rfl | ⟨e, -, rfl⟩ := step.of_single rfl rfl rfl
    · exact .inl rfl
    · exact .inr ⟨rfl, rfl, l, rfl, sample_trace l s⟩
    · exact .inl rfl
  · exact .inl (step.commandFrame.level (not_exists.mp reads))

/-- RXDATA is written by the last step of RECV (45_byte_transfer R165). -/
theorem ExecStep.rxdata {i : Instr} {s t : State} (step : ExecStep i s t) :
    t.rxdata = s.rxdata ∨ (t.err = .ok ∧ t.busy = false ∧ t.rxdata = s.sr ∧ ∃ a, i = .recv a) := by
  by_cases receives : ∃ a, i = .recv a
  · obtain ⟨a, rfl⟩ := receives
    cases step with
    | turnedAway | abortEnds => exact .inl (by simp [finishAbort])
    | goesOn enters | initFails enters | pollFails enters =>
      obtain ⟨_, _, _, rfl⟩ := enters.frame
      exact .inl (by simp)
    | @completes n m r enters entry last =>
      obtain rfl : n = 12 := Nat.succ.inj last
      obtain rfl : .rl .sda = m := Option.some.inj entry
      obtain ⟨-, rfl⟩ := enters.inside_of_pos (by decide)
      exact .inr ⟨rfl, rfl, rfl, a, rfl⟩
  · exact .inl (step.commandFrame.rxdata (not_exists.mp receives))

/-- Settles O56: of all steps only those of the commands that own a result register write it. -/
theorem resultsWrittenOnlyAtCompletion : Obligations.ResultsWrittenOnlyAtCompletion := by
  intro s t step
  cases machineStep_of_step step with
  | rests | reads | resumes | rejects | rejectedAborts => exact .inr ⟨.inl rfl, .inl rfl, .inl rfl⟩
  | runs turn released busy word step =>
    refine .inr ⟨step.ack.imp id ?_, step.level.imp id ?_, step.rxdata.imp id ?_⟩
    · exact fun ⟨ok, done, value, writes⟩ => ⟨ok, done, busy, value, _, word, writes⟩
    · rintro ⟨ok, done, l, rfl, value⟩; exact ⟨ok, done, busy, l, word, value⟩
    · rintro ⟨ok, done, value, a, rfl⟩; exact ⟨ok, done, busy, value, a, word⟩
  | @writes ts _ v r =>
    obtain ⟨_, _, _, _, _, _, _, _, written⟩ := hostWrite_frame r v { s with sched := ts }
    rw [written]
    exact .inr ⟨.inl rfl, .inl rfl, .inl rfl⟩
  | resets turn => exact .inl ⟨_, turn⟩

/-! ## Frames of single commands (10_state R49) -/

@[simp] theorem endCommand_drv (e : ErrCode) (s : State) (l : Line) : (endCommand e s).drv l = s.drv l := by
  cases l <;> rfl

/-- In a state of a run the abort release ends with the error of the command's own poll loop. -/
theorem State.Inv.abort_own {i : Instr} {s : State} {e : ErrCode} (h : s.Inv) (word : decode s.cur = .ok i)
    (abort : s.useq = .abort e) : pollError i = some e := by
  obtain ⟨-, j, hj, own⟩ := h.aborting e abort
  obtain rfl : i = j := Except.ok.inj (word.symm.trans hj)
  exact own

/-- In a state of a run no abort release stands under a command that has no poll loop. -/
theorem State.Inv.ends_of_single {i : Instr} {m : Micro} {s t : State} (h : s.Inv)
    (word : decode s.cur = .ok i) (step : ExecStep i s t) (list : (commandOf i).micros = [m])
    (keeps : (commandOf i).prepare s = s) (noPoll : pollError i = none)
    (noResult : ∀ u, (commandOf i).finish u = u) :
    ∃ e u, (u = s ∨ u = (runMicro m s).2) ∧ t = endCommand e u := by
  obtain ⟨e, rfl⟩ | rfl | ⟨e, abort, -⟩ := step.of_single list keeps noPoll
  · exact ⟨e, s, .inl rfl, rfl⟩
  · exact ⟨.ok, _, .inr rfl, by rw [noResult]; rfl⟩
  · cases noPoll.symm.trans (h.abort_own word abort)

/-- Settles O59: each of the four commands ends in every step, and its step makes its one micro-operation at
most. -/
theorem frameOfLineDriverAndDelay : Obligations.FrameOfLineDriverAndDelay := by
  intro i s t h word step
  have single {m : Micro} := h.ends_of_single (m := m) word (exec_cases step)
  refine ⟨?otherLine, ?noLine, ?noPoll, ?noDraw⟩
  case otherLine =>
    rintro l m (rfl | rfl) other
    all_goals
      obtain ⟨e, u, rfl | rfl, rfl⟩ := single rfl rfl rfl (fun _ => rfl)
      · simp
      · exact (endCommand_drv _ _ _).trans (State.drv_setDrv_other s _ other)
  case noLine =>
    rintro l n (rfl | rfl)
    all_goals
      obtain ⟨e, u, rfl | rfl, rfl⟩ := single rfl rfl rfl (fun _ => rfl) <;> simp [runMicro, readLevel]
  case noPoll =>
    rintro l n (rfl | rfl | rfl | rfl)
    all_goals
      obtain ⟨e, u, rfl | rfl, rfl⟩ := single rfl rfl rfl (fun _ => rfl) <;> simp [runMicro, readLevel]
  case noDraw =>
    rintro l n (rfl | rfl | rfl)
    all_goals
      obtain ⟨e, u, rfl | rfl, rfl⟩ := single rfl rfl rfl (fun _ => rfl) <;> simp [runMicro]

/-- A sample of SCL takes nothing from the levels presented on SDA (log 3). -/
@[simp] theorem sample_scl_sdaIn (s : State) : (sample .scl s).2.sdaIn = s.sdaIn := by
  show (lineLevel .scl s).2.sdaIn = s.sdaIn
  cases driven : s.drv .scl with
  | drivingLow => rw [lineLevel_driven driven]
  | released =>
    rw [lineLevel_released driven]
    cases levels : s.lineIn .scl with
    | nil => rw [drawLevel_nil levels]
    | cons v vs => rw [drawLevel_cons levels]; rfl

/-- An entry of the gate leaves SDA alone and samples SCL only (43_stretch_gate R130). -/
theorem runMicro_gate {m : Micro} (s : State) (h : m = .gateRelease ∨ m = .gatePoll) :
    (runMicro m s).2.drvSda = s.drvSda ∧ (runMicro m s).2.sdaIn = s.sdaIn := by
  obtain rfl | rfl := h
  · exact ⟨rfl, rfl⟩
  · simp only [runMicro, gatePoll]
    split <;> simp

/-- The bus-free check moves no line (44_conditions R140). -/
theorem runMicro_busPoll (s : State) :
    (runMicro .busPoll s).2.drvScl = s.drvScl ∧ (runMicro .busPoll s).2.drvSda = s.drvSda := by
  simp only [runMicro, busPoll]
  split <;> simp

/-- OPEN releases lines and samples none (40_open R100). -/
theorem State.Inv.openSession_frame {s t : State} (h : s.Inv) (word : decode s.cur = .ok .openSession)
    (step : ExecStep .openSession s t) :
    (∀ l, t.drv l = s.drv l ∨ t.drv l = .released) ∧ t.p = s.p ∧ t.sclIn = s.sclIn ∧
    t.sdaIn = s.sdaIn := by
  have entered {n : Nat} {r : State} (enters : Enters .openSession s n r) : r = s := by
    cases enters <;> rfl
  cases step with
  | turnedAway => exact ⟨fun l => .inl (by simp), rfl, rfl, rfl⟩
  | goesOn enters entry | completes enters entry =>
    rw [entered enters]
    exact runMicro_openSession s (ownedBy_of_entry entry)
  | initFails enters entry =>
    rw [entered enters]
    exact runMicro_openSession s (ownedBy_of_entry entry)
  | pollFails enters entry loop => cases pollError_of_loopError (ownedBy_of_entry entry) loop
  | abortEnds abort => cases h.abort_own word abort

/-- RAISE_SCL leaves SDA to the abort release (43_stretch_gate R131). -/
theorem State.Inv.raiseScl_frame {s t : State} (h : s.Inv) (word : decode s.cur = .ok .raiseScl)
    (step : ExecStep .raiseScl s t) :
    (t.drvSda = s.drvSda ∨ (t.err = .clockHeld ∧ t.drvSda = .released)) ∧ t.sdaIn = s.sdaIn := by
  have entered {n : Nat} {r : State} (enters : Enters .raiseScl s n r) : r = s := by
    cases enters <;> rfl
  have gate {n : Nat} {m : Micro} (entry : (commandOf .raiseScl).micros[n]? = some m) :
      m = .gateRelease ∨ m = .gatePoll := by simpa using List.mem_of_getElem? entry
  cases step with
  | turnedAway => exact ⟨.inl rfl, rfl⟩
  | goesOn enters entry | completes enters entry =>
    rw [entered enters]
    exact (runMicro_gate s (gate entry)).imp .inl id
  | initFails enters entry => cases ownedBy_of_entry entry
  | pollFails enters =>
    rw [entered enters]
    exact ⟨.inl rfl, rfl⟩
  | abortEnds abort =>
    cases h.abort_own word abort
    exact ⟨.inr ⟨rfl, rfl⟩, rfl⟩

/-- BUSFREE leaves both lines to the two steps of the abort release (44_conditions R141). -/
theorem State.Inv.busfree_frame {s t : State} (h : s.Inv) (word : decode s.cur = .ok .busfree)
    (step : ExecStep .busfree s t) :
    (t.drvScl = s.drvScl ∧ t.drvSda = s.drvSda) ∨
    (t.drvScl = .released ∧ t.drvSda = s.drvSda ∧ t.useq = .abort .busNotFree) ∨
    (t.drvScl = s.drvScl ∧ t.drvSda = .released ∧ t.err = .busNotFree) := by
  have check {n : Nat} {m : Micro} (entry : (commandOf .busfree).micros[n]? = some m) : m = .busPoll := by
    simpa using List.mem_of_getElem? entry
  cases step with
  | turnedAway => exact .inl ⟨rfl, rfl⟩
  | goesOn enters entry | completes enters entry =>
    obtain rfl := check entry
    obtain ⟨_, _, _, rfl⟩ := enters.frame
    exact .inl (runMicro_busPoll _)
  | initFails enters entry => cases ownedBy_of_entry entry
  | pollFails enters entry loop =>
    cases pollError_of_loopError (ownedBy_of_entry entry) loop
    obtain ⟨_, _, _, rfl⟩ := enters.frame
    exact .inr (.inl ⟨rfl, rfl, rfl⟩)
  | abortEnds abort =>
    cases h.abort_own word abort
    exact .inr (.inr ⟨rfl, rfl, rfl⟩)

/-- Settles O60: an entry of the three lists touches no line that the statement does not name, and the abort
release is the command's own. -/
theorem frameOfOpenRaiseSclAndBusfree : Obligations.FrameOfOpenRaiseSclAndBusfree :=
  fun _ _ h =>
    ⟨fun word step => h.openSession_frame word (exec_cases step),
     fun word step => h.raiseScl_frame word (exec_cases step),
     fun word step => h.busfree_frame word (exec_cases step)⟩

end Sys2Proof.Machine
end

section

/-!
The register window and reset: what a host access at an offset of the window makes of the state, the fields
of the STATUS word (10_state R28), and the state while `rst` is asserted (10_state R46).
-/

namespace Sys2Proof.Machine

/-! ## One host access -/

/-- What a register shows does not depend on the turns to come. -/
theorem readReg_sched (r : WinReg) (s : State) (ts : List Turn) :
    readReg r { s with sched := ts } = readReg r s := by
  cases r <;> rfl

/-- A word read at an offset of the window (20_memory R58). -/
theorem step_read {s : State} {ts : List Turn} {off : Nat} {r : WinReg}
    (turn : s.sched = .access (.read (Config.base + off) 4) :: ts) (aligned : off % 4 = 0)
    (reg : regAt off = some r) :
    step s = .next { s with sched := ts, reads := readReg r s :: s.reads } := by
  rw [← readReg_sched r s ts]
  simp [step, nextTurn, turn, takeTurn, hostAccess, fullWord, aligned, reg]

/-- A word written at an offset of the window (20_memory R59). -/
theorem step_write {s : State} {ts : List Turn} {off : Nat} {v : Word} {r : WinReg}
    (turn : s.sched = .access (.write (Config.base + off) 4 v) :: ts) (aligned : off % 4 = 0)
    (reg : regAt off = some r) :
    step s = .next (hostWrite r v { s with sched := ts }) := by
  simp [step, nextTurn, turn, takeTurn, hostAccess, fullWord, aligned, reg]

/-- Out of reset the write reaches the register (20_memory R56, R57). -/
theorem step_write_released {s : State} {ts : List Turn} {off : Nat} {v : Word} {r : WinReg}
    (turn : s.sched = .access (.write (Config.base + off) 4 v) :: ts) (aligned : off % 4 = 0)
    (reg : regAt off = some r) (released : s.rst = false) :
    step s = .next (writeReg r v { s with sched := ts }) :=
  (step_write turn aligned reg).trans
    (congrArg _ (hostWrite_of_released (s := { s with sched := ts }) r v released))

/-! ## The STATUS word (10_state R28) -/

@[simp] theorem levelBit_eq_true {v : Level} : levelBit v = true ↔ v = .high := by
  cases v <;> simp [levelBit]

@[simp] theorem driveBit_eq_true {d : Drive} : driveBit d = true ↔ d = .drivingLow := by
  cases d <;> simp [driveBit]

/-- STATUS bit by bit (10_state R28). -/
theorem statusWord_getLsbD (s : State) (j : Nat) :
    (statusWord s).getLsbD j =
      if j = 0 then s.busy
      else if j = 1 then s.opened
      else if j = 2 then levelBit s.ack
      else if j = 3 then levelBit s.level
      else if j < 8 then (errNumber s.err).getLsbD (j - 4)
      else if j = 8 then s.cmdLost
      else if j = 9 then driveBit s.drvScl
      else if j = 10 then driveBit s.drvSda
      else false := by
  simp only [statusWord, BitVec.getLsbD_append, BitVec.getLsbD_ofBool, BitVec.getLsbD_zero]
  obtain field | reserved := Nat.lt_or_ge j 11
  · interval_cases j <;> simp
  · simp (disch := omega) only [if_neg]

theorem statusWord_err (s : State) : (statusWord s).extractLsb' 4 4 = errNumber s.err := by
  apply BitVec.eq_of_getLsbD_eq
  intro j hj
  rw [BitVec.getLsbD_extractLsb', statusWord_getLsbD]
  interval_cases j <;> simp

theorem statusWord_reserved (s : State) : (statusWord s).extractLsb' 11 21 = 0#21 := by
  apply BitVec.eq_of_getLsbD_eq
  intro j hj
  rw [BitVec.getLsbD_extractLsb', statusWord_getLsbD]
  simp (disch := omega) [if_neg]

/-- Settles O12: the word read is `statusWord`, whose bits are known one by one. -/
theorem statusReadShowsEveryField : Obligations.StatusReadShowsEveryField := by
  intro s ts turn
  have bit := statusWord_getLsbD s
  refine ⟨statusWord s, step_read turn rfl rfl, bit 0, bit 1, ?_, ?_, statusWord_err s, bit 8, ?_, ?_,
    statusWord_reserved s⟩
  · exact (bit 2 : _ = levelBit s.ack) ▸ levelBit_eq_true
  · exact (bit 3 : _ = levelBit s.level) ▸ levelBit_eq_true
  · exact (bit 9 : _ = driveBit s.drvScl) ▸ driveBit_eq_true
  · exact (bit 10 : _ = driveBit s.drvSda) ▸ driveBit_eq_true

/-- Settles O13: the reserved bits are a field of their own, and a write looks at bit 8 only. -/
theorem statusWriteClearsOnlyCmdLost : Obligations.StatusWriteClearsOnlyCmdLost := by
  intro s v ts
  refine ⟨statusWord_reserved s, fun turn released => ?_⟩
  rw [step_write_released turn rfl rfl released]
  cases clear : v.getLsbD 8 <;> simp only [writeReg, writeStatus, clear] <;> simp

/-! ## The configuration registers (10_state R41, R42) -/

/-- A locked configuration register ignores a write. -/
theorem hostWrite_locked {r : WinReg} {s : State} (v : Word) (locked : configWritable s = false)
    (config : r = .bitDelay ∨ r = .stretchTimeout ∨ r = .slaveAddr) : hostWrite r v s = s := by
  unfold hostWrite
  split
  · rfl
  · obtain rfl | rfl | rfl := config <;> simp [writeReg, locked]

/-- Settles O14: `configWritable` is the one gate of the three registers. -/
theorem configurationLockedByOpenAndBusy : Obligations.ConfigurationLockedByOpenAndBusy := by
  intro s v ts off config turn
  constructor
  · intro locked
    have locked : configWritable { s with sched := ts } = false := by
      obtain opened | busy := locked
      · simp [configWritable, opened]
      · simp [configWritable, busy]
    obtain rfl | rfl | rfl := config
    all_goals rw [step_write turn rfl rfl, hostWrite_locked v locked (by simp)]
  · intro closed waiting released
    have writable : configWritable { s with sched := ts } = true := by
      simp [configWritable, closed, waiting]
    obtain rfl | rfl | rfl := config
    all_goals
      rw [step_write_released turn rfl rfl released]
      simp [writeReg, writable, BitVec.setWidth_eq_extractLsb']

/-! ## Reset (10_state R46) -/

/-- Under reset only ACK shows 1 in STATUS. -/
@[simp] theorem statusWord_holdReset (s : State) : statusWord (holdReset s) = 0x00000004 := by
  change statusWord State.reset = 0x00000004
  decide

theorem holdReset_assertReset {s : State} (released : s.rst = false) :
    holdReset (assertReset s) = assertReset s := by
  rw [assertReset_of_released released]
  rfl

/-- Settles O7: each of the three states is a state that `holdReset` leaves as it is. -/
theorem resetGivesTheResetValues : Obligations.ResetGivesTheResetValues := by
  intro s ts released turn
  refine ⟨assertReset { s with sched := ts }, by simp [step, nextTurn, turn, takeTurn], fun u hu => ?_⟩
  have held : holdReset u = u := by
    obtain rfl | rfl | ⟨inv, asserted⟩ := hu
    · exact holdReset_assertReset released
    · rfl
    · exact inv.reset_held asserted
  rw [← held]
  simp [State.reset, padOe, State.drv, driveBit]

end Sys2Proof.Machine
end

section

/-!
The register window and the turns: which host accesses are admitted (20_memory R52), what each of them leaves
unchanged (R56 to R59, R66), and the controller's turn.
-/

namespace Sys2Proof.Machine

/-! ## The admitted accesses (20_memory R51, R52) -/

/-- The host's turn is its access, with the turn taken off the list (20_memory R62). -/
theorem step_access {s : State} {a : HostAccess} {ts : List Turn} (turn : s.sched = .access a :: ts) :
    step s = hostAccess a { s with sched := ts } := by
  simp [step, nextTurn, turn, takeTurn]

/-- The window has a register at each of its eight words and nowhere else (20_memory R51). -/
theorem regAt_ne_none_iff (off : Nat) : regAt off ≠ none ↔ ∃ j, j < 8 ∧ off = 4 * j := by
  constructor
  · intro named
    refine ⟨off / 4, ?_⟩
    unfold regAt at named
    split at named <;> simp at named ⊢
  · rintro ⟨j, inWindow, rfl⟩
    interval_cases j <;> simp [regAt]

/-- The same at a host address: the registers stand at `BASE + 4·j` (20_memory R51). -/
theorem regAtAddr_ne_none_iff (addr : Nat) :
    regAtAddr addr ≠ none ↔ ∃ j, j < 8 ∧ addr = Config.base + 4 * j := by
  unfold regAtAddr
  split
  · rw [regAt_ne_none_iff]
    exact exists_congr fun j => and_congr_right fun _ => by omega
  · simp only [ne_eq, not_true_eq_false, false_iff, not_exists, not_and]
    omega

/-- An access is admitted when it is a full word and reaches a register; a narrow or misaligned one is
refused whatever it reaches (20_memory R52). -/
theorem hostAccess_admitted {a : HostAccess} {addr bytes : Nat} (s : State)
    (form : a = .read addr bytes ∨ ∃ v, a = .write addr bytes v) :
    ((∃ t, hostAccess a s = .next t) ↔ fullWord addr bytes = true ∧ regAtAddr addr ≠ none) ∧
    (fullWord addr bytes = false → hostAccess a s = .refused .hostNarrowAccess) := by
  obtain rfl | ⟨v, rfl⟩ := form
  all_goals
    simp only [hostAccess]
    cases fullWord addr bytes with
    | false => simp
    | true => cases regAtAddr addr <;> simp

/-- Settles O16: the word-aligned addresses that name a register are the eight words of the window. -/
theorem onlyAlignedWindowWordsAdmitted : Obligations.OnlyAlignedWindowWordsAdmitted := by
  intro s ts a addr bytes form turn
  obtain ⟨admitted, narrow⟩ := hostAccess_admitted { s with sched := ts } form
  have word : fullWord addr bytes = true ↔ bytes = 4 ∧ addr % 4 = 0 := by simp [fullWord]
  rw [step_access turn]
  constructor
  · rw [admitted, word, regAtAddr_ne_none_iff, and_assoc, and_congr_right_iff]
    rintro -
    refine and_iff_right_of_imp ?_
    rintro ⟨j, -, rfl⟩
    simp
  · intro malformed
    refine narrow (Bool.eq_false_iff.mpr fun full => ?_)
    obtain ⟨wide, aligned⟩ := word.mp full
    exact malformed.elim (· wide) (· aligned)

/-! ## What a host access leaves unchanged -/

/-- Settles O17: a read writes the host's data only, and a write has the frame of `hostWrite`. -/
theorem hostAccessMovesNoLine : Obligations.HostAccessMovesNoLine := by
  intro s t a ts turn step
  rw [step_access turn] at step
  obtain ⟨addr, r, -, -, rfl⟩ | ⟨addr, r, v, -, -, rfl⟩ := hostAccess_cases step
  · simp
  · obtain ⟨_, _, _, _, _, _, _, _, written⟩ := hostWrite_frame r v { s with sched := ts }
    rw [written]
    simp

/-- Settles O15: each of the six offsets names its register, and a read shows it. -/
theorem readsHaveNoSideEffect : Obligations.ReadsHaveNoSideEffect := by
  intro s ts off w shown turn
  simp only [List.mem_cons, List.not_mem_nil, or_false, Prod.mk.injEq] at shown
  obtain ⟨rfl, rfl⟩ | ⟨rfl, rfl⟩ | ⟨rfl, rfl⟩ | ⟨rfl, rfl⟩ | ⟨rfl, rfl⟩ | ⟨rfl, rfl⟩ := shown
  all_goals exact step_read turn rfl rfl

/-- A write to a reserved offset is ignored (20_memory R53), and under reset it is lost. -/
@[simp] theorem hostWrite_reserved (v : Word) (s : State) : hostWrite .reserved v s = s := by
  simp [hostWrite, writeReg]

/-- Settles O11: both offsets name the reserved register. -/
theorem reservedOffsetsReadZeroIgnoreWrites : Obligations.ReservedOffsetsReadZeroIgnoreWrites := by
  rintro s off v ts (rfl | rfl)
  all_goals
    exact ⟨fun turn => step_read turn rfl rfl,
      fun turn => (step_write turn rfl rfl).trans (by rw [hostWrite_reserved])⟩

/-! ## Writes to CMD (20_memory R56, R57) -/

/-- CMD stands at `BASE` itself, and out of reset a write reaches it. -/
theorem step_writeCmd {s : State} {v : Word} {ts : List Turn}
    (turn : s.sched = .access (.write Config.base 4 v) :: ts) (released : s.rst = false) :
    step s = .next (writeCmd v { s with sched := ts }) :=
  step_write_released (off := 0) turn rfl rfl released

/-- Settles O9: at rest the write is acceptance. -/
theorem commandAcceptedWhenNotBusy : Obligations.CommandAcceptedWhenNotBusy := by
  intro s v ts turn released waiting
  rw [step_writeCmd turn released]
  simp [writeCmd, waiting, acceptCommand]

/-- Settles O10: in a busy block the write sets CMD_LOST only. -/
theorem commandDroppedWhenBusy : Obligations.CommandDroppedWhenBusy := by
  intro s v ts turn released busy
  rw [step_writeCmd turn released]
  simp [writeCmd, busy]

/-! ## The executing command and its configuration (20_memory R66) -/

/-- What an executing command works with: from `s` to `t` its word stays while it runs, and the configuration
while it runs or the session is open. -/
def Captured (s t : State) : Prop :=
  (s.busy = true → t.cur = s.cur) ∧
  (s.busy = true ∨ s.opened = true → t.bitDelay = s.bitDelay ∧ t.stretchTimeout = s.stretchTimeout ∧
    t.slaveAddr = s.slaveAddr)

theorem Captured.of_same {s t : State} (cur : t.cur = s.cur) (bitDelay : t.bitDelay = s.bitDelay)
    (stretchTimeout : t.stretchTimeout = s.stretchTimeout) (slaveAddr : t.slaveAddr = s.slaveAddr) :
    Captured s t :=
  ⟨fun _ => cur, fun _ => ⟨bitDelay, stretchTimeout, slaveAddr⟩⟩

/-- A host write captures them: in a busy block CMD drops the word (20_memory R57), and the configuration
registers are locked (10_state R42). -/
theorem captured_hostWrite (r : WinReg) (v : Word) (s : State) : Captured s (hostWrite r v s) := by
  cases released : s.rst with
  | true => rw [hostWrite_of_asserted r v released]; exact .of_same rfl rfl rfl rfl
  | false =>
    rw [hostWrite_of_released r v released]
    cases r with
    | rxdata | reserved => exact .of_same rfl rfl rfl rfl
    | status => simp only [writeReg, writeStatus]; split <;> exact .of_same rfl rfl rfl rfl
    | cmd =>
      simp only [writeReg, writeCmd]
      split
      · exact .of_same rfl rfl rfl rfl
      · exact ⟨fun busy => absurd busy ‹_›, fun _ => ⟨rfl, rfl, rfl⟩⟩
    | bitDelay | stretchTimeout | slaveAddr =>
      simp only [writeReg]
      cases writable : configWritable s with
      | true =>
        obtain ⟨closed, waiting⟩ : s.opened = false ∧ s.busy = false := by
          simpa [configWritable] using writable
        simp [Captured, closed, waiting]
      | false => exact .of_same rfl rfl rfl rfl

/-- Settles O57: the controller writes neither the word nor the configuration, and a host write leaves them
to the running command. -/
theorem executingCommandIsCaptured : Obligations.ExecutingCommandIsCaptured := by
  intro s t step
  cases machineStep_of_step step with
  | rests | reads | resumes | rejects | rejectedAborts => exact .inr (Captured.of_same rfl rfl rfl rfl)
  | runs _ _ _ _ step =>
    have h := step.commandFrame
    exact .inr (Captured.of_same h.cur h.bitDelay h.stretchTimeout h.slaveAddr)
  | @writes ts _ v r => exact .inr (captured_hostWrite r v { s with sched := ts })
  | resets turn => exact .inl ⟨_, turn⟩

/-! ## The controller's turn (20_memory R62, R66) -/

/-- The controller's turn in a busy block out of reset. -/
theorem controllerTurn_of_busy {s : State} {i : Instr} (released : s.rst = false) (busy : s.busy = true)
    (word : decode s.cur = .ok i) : controllerTurn s = exec i s := by
  simp [controllerTurn, released, busy, word]

/-- Settles O18: with no turn listed, or its own turn next, the controller moves. -/
theorem stepRunsTheDecodedCommand : Obligations.StepRunsTheDecodedCommand := by
  intro s i released busy word
  constructor
  · intro empty
    simp only [step, nextTurn, empty]
    exact controllerTurn_of_busy released busy word
  · intro ts turn
    simp only [step, nextTurn, turn]
    exact controllerTurn_of_busy (s := { s with sched := ts }) released busy word

end Sys2Proof.Machine
end

section

/-!
Runs of several controller steps. A command's list is cut into straight segments, which `execFor_straight` runs
in one go, and gates, which `execFor_gatePoll` runs to their High sample.
-/

namespace Sys2Proof.Machine

/-! ## One controller step, forwards -/

/-- A controller step runs the entry that the command enters. -/
theorem exec_of_enters {i : Instr} {n : Nat} {s r : State} (enters : Enters i s n r) :
    exec i s = microStep (commandOf i) n r := by
  rw [exec_eq_runCommand, runCommand]
  cases enters with
  | first at_first passes => rw [at_first]; simp only [passes]
  | inside at_entry => rw [at_entry]

/-- An entry runs, and the command goes on at an entry of its list. -/
theorem exec_goesOn {i : Instr} {n n' : Nat} {m : Micro} {f : Flow} {s r t : State}
    (enters : Enters i s n r) (entry : (commandOf i).micros[n]? = some m) (runs : runMicro m r = (f, t))
    (goes : f.entryAfter n = some n') (inList : n' < (commandOf i).micros.length) :
    exec i s = .next { t with useq := .pos n' } := by
  rw [exec_of_enters enters, microStep, entry]
  cases f <;> cases goes
  case advance => simp [runs, inList]
  all_goals simp [runs]

/-- The last entry runs, and the command completes. -/
theorem exec_completes {i : Instr} {n : Nat} {m : Micro} {s r t : State} (enters : Enters i s n r)
    (entry : (commandOf i).micros[n]? = some m) (runs : runMicro m r = (.advance, t))
    (last : n + 1 = (commandOf i).micros.length) :
    exec i s = .next (complete ((commandOf i).finish t)) := by
  rw [exec_of_enters enters, microStep, entry]
  simp [runs, last]

/-- A run goes on from the state that its first part answers. -/
theorem execFor_trans {i : Instr} {m n total : Nat} {s t : State} {answer : Result}
    (first : execFor i m s = .next t) (count : total = m + n) (second : execFor i n t = answer) :
    execFor i total s = answer := by
  rw [count, execFor_add m n first, second]

theorem execFor_one {i : Instr} {s t : State} (h : exec i s = .next t) : execFor i 1 s = .next t :=
  execFor_succ 0 h

/-! ## Straight segments -/

/-- An entry that always leads to the following one; INIT, the poll loops and the end of a data bit are the
others. -/
def Micro.straight : Micro → Bool
  | .init | .gatePoll | .busPoll | .lowerBit => false
  | .dl _ | .rl _ | .wait _ | .readLevel _ | .gateRelease | .sendBit | .recvBit | .sampleAck => true

theorem runMicro_straight {m : Micro} (s : State) (h : m.straight = true) :
    (runMicro m s).1 = .advance := by
  cases m
  case init | gatePoll | busPoll | lowerBit => cases h
  all_goals rfl

/-- The state after the entries of a straight segment that begins at entry `n`. -/
def runSegment : List Micro → Nat → State → State
  | [], _, s => s
  | m :: ms, n, s => runSegment ms (n + 1) { (runMicro m s).2 with useq := .pos (n + 1) }

/-- The entry after a segment of a list. -/
theorem entry_after {i : Instr} {n : Nat} {ms rest : List Micro} {m : Micro}
    (entries : (commandOf i).micros.drop n = ms ++ m :: rest) :
    (commandOf i).micros[n + ms.length]? = some m := by
  rw [← List.getElem?_drop, entries]
  simp

/-- A straight segment with an entry after it runs in as many steps as it has entries. -/
theorem execFor_straight {i : Instr} (ms : List Micro) {next : Micro} {rest : List Micro} {n : Nat}
    {s r u : State} (enters : Enters i s n r) (entries : (commandOf i).micros.drop n = ms ++ next :: rest)
    (nonempty : ms ≠ []) (straight : ∀ m ∈ ms, m.straight = true) (after : runSegment ms n r = u) :
    execFor i ms.length s = .next u := by
  subst after
  induction ms generalizing n s r with
  | nil => exact absurd rfl nonempty
  | cons m ms ih =>
    have entry : (commandOf i).micros[n]? = some m := entry_after (ms := []) entries
    have inList : n + 1 < (commandOf i).micros.length := by
      have := congrArg List.length entries
      simp at this
      omega
    have entered := exec_goesOn enters entry (Prod.ext (runMicro_straight r (straight m (by simp))) rfl)
      rfl inList
    rw [List.length_cons, execFor_succ _ entered]
    cases ms with
    | nil => rfl
    | cons m' ms =>
      refine ih (.inside rfl) ?_ (by simp) fun x hx => straight x (.tail _ hx)
      rw [← List.tail_drop, entries]
      rfl

/-- The last entry of a segment runs after the others. -/
theorem runSegment_concat (ms : List Micro) (m : Micro) (n : Nat) (s : State) :
    runSegment (ms ++ [m]) n s =
      { (runMicro m (runSegment ms n s)).2 with useq := .pos (n + ms.length + 1) } := by
  induction ms generalizing n s with
  | nil => rfl
  | cons m' ms ih => simp [runSegment, ih, Nat.add_comm, Nat.add_left_comm]

/-! ## Gates (43_stretch_gate R130, R133) -/

/-- One poll of a released SCL whose budget is not used up. -/
theorem runMicro_gatePoll {s : State} {v : Level} {vs : List Level} (released : s.drvScl = .released)
    (level : s.sclIn = v :: vs) (budget : s.p ≠ s.stretchTimeout) :
    runMicro .gatePoll s = (if v = .high then .advance else .stay,
      { s with p := s.p + 1, sclIn := vs, trace := .sample .scl v :: s.trace }) := by
  have sampled : sample .scl { s with p := s.p + 1 } = _ := sample_released released level
  simp only [runMicro, gatePoll, if_neg budget, sampled]
  rfl

/-- The gate stays at its poll for as long as SCL is Low and the budget lasts. -/
theorem execFor_gatePoll_low {i : Instr} {n m : Nat} {s : State} {rest : List Level}
    (at_entry : s.useq = .pos n) (entry : (commandOf i).micros[n]? = some .gatePoll)
    (released : s.drvScl = .released) (held : s.sclIn = List.replicate m .low ++ rest)
    (budget : s.p.toNat + m ≤ s.stretchTimeout.toNat) :
    execFor i m s = .next { s with
      p := s.p + BitVec.ofNat 32 m, sclIn := rest,
      trace := List.replicate m (.sample .scl .low) ++ s.trace } := by
  induction m generalizing s with
  | zero => obtain rfl : s.sclIn = rest := held; simp
  | succ m ih =>
    have budgetLeft : s.p ≠ s.stretchTimeout := fun spent => by rw [spent] at budget; omega
    have stays := exec_goesOn (n' := n) (.inside at_entry) entry
      (runMicro_gatePoll released held budgetLeft) rfl (List.getElem?_eq_some_iff.mp entry).1
    rw [execFor_succ _ stays]
    refine Eq.trans (ih rfl released rfl ?_) ?_
    · have : (s.p + 1).toNat = s.p.toNat + 1 := by bv_omega
      simp only [this]; omega
    · simp [at_entry, BitVec.ofNat_add, BitVec.add_assoc, BitVec.add_comm 1#32, List.replicate_succ']

/-- A peer that lets SCL go within the budget lets the gate pass. -/
theorem execFor_gatePoll {i : Instr} {n m : Nat} {s : State} {rest : List Level}
    (at_entry : s.useq = .pos n) (entry : (commandOf i).micros[n]? = some .gatePoll)
    (more : n + 1 < (commandOf i).micros.length) (released : s.drvScl = .released) (start : s.p = 0)
    (held : s.sclIn = heldFor m ++ rest) (budget : m < s.stretchTimeout.toNat) :
    execFor i (m + 1) s = .next { s with
      p := BitVec.ofNat 32 (m + 1), sclIn := rest,
      trace := .sample .scl .high :: (List.replicate m (.sample .scl .low) ++ s.trace),
      useq := .pos (n + 1) } := by
  have low := execFor_gatePoll_low (m := m) (rest := .high :: rest) at_entry entry released
    (by simp [held, heldFor]) (by simp [start]; omega)
  have budgetLeft : s.p + BitVec.ofNat 32 m ≠ s.stretchTimeout := fun spent => by
    rw [← spent, start] at budget
    simp at budget
    omega
  rw [execFor_add m 1 low]
  refine Eq.trans (execFor_one (exec_goesOn (.inside at_entry) entry
    (runMicro_gatePoll released rfl budgetLeft) rfl more)) ?_
  simp [start, BitVec.ofNat_add]

/-- A gate that passes, with the straight segment that leads to it (43_stretch_gate R130). -/
theorem execFor_gate {i : Instr} (ms : List Micro) {next : Micro} {tail : List Micro} {n m : Nat}
    {s r u : State} {rest : List Level} (enters : Enters i s n r)
    (entries : (commandOf i).micros.drop n = ms ++ .gateRelease :: .gatePoll :: next :: tail)
    (straight : ∀ m ∈ ms, m.straight = true) (after : runSegment ms n r = u)
    (held : u.sclIn = heldFor m ++ rest) (budget : m < u.stretchTimeout.toNat) :
    execFor i (ms.length + (m + 2)) s = .next { u with
      drvScl := .released, p := BitVec.ofNat 32 (m + 1), sclIn := rest,
      trace := (gateEvents m).reverse ++ u.trace, useq := .pos (n + ms.length + 2) } := by
  have entries' : (commandOf i).micros.drop n = (ms ++ [.gateRelease]) ++ .gatePoll :: next :: tail := by
    simp [entries]
  have straight' : ∀ m ∈ ms ++ [.gateRelease], m.straight = true := by
    simpa [Micro.straight, or_imp, forall_and] using straight
  have released := execFor_straight _ enters entries' (by simp) straight' (runSegment_concat ..)
  rw [after] at released
  have more : n + ms.length + 2 < (commandOf i).micros.length := by
    have := congrArg List.length entries
    simp at this
    omega
  have poll : (commandOf i).micros[n + ms.length + 1]? = some .gatePoll := by
    simpa [Nat.add_assoc] using entry_after entries'
  rw [show ms.length + (m + 2) = (ms ++ [Micro.gateRelease]).length + (m + 1) by simp; omega,
    execFor_add _ _ released]
  refine Eq.trans (execFor_gatePoll rfl poll more rfl rfl held budget) ?_
  simp [gateEvents, runMicro, release]

end Sys2Proof.Machine
end

section

/-!
Successful runs of the byte transfer engine (45_byte_transfer R161, R165): eight data bits, each of which
passes a gate, and the ninth clock.
-/

namespace Sys2Proof.Machine

/-! ## Samples of SDA -/

/-- The coming samples of SDA give `levels` and leave `vs` for later ones: SDA is released and the environment
presents them, or SDA is driven low and takes nothing from it (00_scope R16). -/
def State.SdaShows (s : State) (levels vs : List Level) : Prop :=
  (s.drvSda = .released ∧ s.sdaIn = levels ++ vs) ∨
  (s.drvSda = .drivingLow ∧ (∀ v ∈ levels, v = .low) ∧ s.sdaIn = vs)

/-- All the levels have been sampled. -/
theorem State.SdaShows.done {s : State} {vs : List Level} (h : s.SdaShows [] vs) : s.sdaIn = vs := by
  obtain ⟨-, h⟩ | ⟨-, -, h⟩ := h <;> exact h

/-- One sample gives the first level, and the coming ones the rest. -/
theorem State.SdaShows.next {s : State} {v : Level} {levels vs : List Level}
    (h : s.SdaShows (v :: levels) vs) :
    ∃ ds, s.SdaShows [v] ds ∧ ({ s with sdaIn := ds } : State).SdaShows levels vs := by
  obtain ⟨released, presented⟩ | ⟨driven, low, kept⟩ := h
  · exact ⟨levels ++ vs, .inl ⟨released, presented⟩, .inl ⟨released, rfl⟩⟩
  · exact ⟨vs, .inr ⟨driven, by simpa using low v (.head _), kept⟩,
      .inr ⟨driven, fun x hx => low x (.tail _ hx), rfl⟩⟩

theorem sample_sda {s : State} {v : Level} {vs : List Level} (h : s.SdaShows [v] vs) :
    sample .sda s = (v, { s with sdaIn := vs, trace := .sample .sda v :: s.trace }) := by
  obtain ⟨released, presented⟩ | ⟨driven, low, rfl⟩ := h
  · exact sample_released (l := .sda) released presented
  · obtain rfl : v = .low := low v (.head _)
    exact sample_driven (l := .sda) driven

/-! ## The bit loop -/

/-- The entry at which the bit loop goes on with `k` bits done: the next bit, or the ninth clock after eight. -/
def bitEntry (k : BitVec 4) : Nat := if k = 8#4 then 6 else 0

theorem bitEntry_done : bitEntry 8#4 = 6 := rfl

theorem bitEntry_left {k : BitVec 4} {n : Nat} (left : k.toNat + (n + 1) = 8) : bitEntry k = 0 :=
  if_neg (by rintro rfl; simp at left)

theorem toNat_bit_succ {k : BitVec 4} {n : Nat} (left : k.toNat + (n + 1) = 8) :
    (k + 1).toNat = k.toNat + 1 := by
  bv_omega

theorem micros_length_of_byte {i : Instr} (byte : isByteCommand i = true) :
    (commandOf i).micros.length = 13 := by
  cases i <;> simp [isByteCommand, sendMicros] at byte ⊢

/-- The end of a data bit. -/
theorem exec_lowerBit {i : Instr} {s : State} (byte : isByteCommand i = true) (at_entry : s.useq = .pos 5) :
    exec i s = .next { s with
      drvScl := .drivingLow, k := s.k + 1, trace := .dl .scl :: s.trace,
      useq := .pos (bitEntry (s.k + 1)) } := by
  refine Eq.trans (exec_goesOn (.inside at_entry) (entry_five byte) (Prod.ext (runMicro_lowerBit_flow s) rfl)
    (f := if s.k + 1 = 8#4 then .advance else .again) (n' := bitEntry (s.k + 1)) ?_ ?_) rfl
  · unfold bitEntry; split <;> rfl
  · rw [micros_length_of_byte byte]; unfold bitEntry; split <;> decide

/-! ## SEND and SENDA -/

section
variable {i : Instr} (writes : writesAck i = true)
include writes

theorem byte_of_writesAck : isByteCommand i = true := by
  cases i <;> simp [writesAck, isByteCommand] at writes ⊢

theorem micros_of_writesAck : (commandOf i).micros = sendMicros := by
  cases i <;> simp [writesAck] at writes ⊢

theorem finish_of_writesAck (s : State) : (commandOf i).finish s = storeAck s := by
  cases i <;> simp only [writesAck, Bool.false_eq_true] at writes <;> rfl

end

/-- A sending command loads its byte at the first step of an open session (45_byte_transfer R160, R163). -/
theorem enters_of_sentByte {i : Instr} {s : State} {b : Byte} (ready : s.ready)
    (sends : sentByte s i = some b) :
    writesAck i = true ∧ Enters i s 0 (loadByte b s) := by
  obtain ⟨first, opened⟩ := ready
  cases i <;> simp only [sentByte, Option.some.injEq, reduceCtorEq] at sends <;> subst sends
  all_goals exact ⟨rfl, .first first (by simp [commandOf, sendCommand, sendaCommand, needsOpen, opened])⟩

theorem runMicro_sendBit (s : State) :
    (runMicro .sendBit s).2 = { s with
      drvSda := if txBit s.sr s.k then .released else .drivingLow
      trace := (if txBit s.sr s.k then .rl .sda else .dl .sda) :: s.trace } := by
  simp only [runMicro, sendBit]
  split <;> rfl

/-- SDA is set to the next bit of the byte (45_byte_transfer R161). -/
theorem runSegment_sendBit (r : State) :
    runSegment [.wait .step, .sendBit] 0 r = { r with
      drvSda := if txBit r.sr r.k then .released else .drivingLow
      trace := (if txBit r.sr r.k then .rl .sda else .dl .sda) :: .wait r.bitDelay.toNat :: r.trace
      useq := .pos 2 } := by
  simp only [runSegment, runMicro_sendBit]
  rfl

/-- One data bit of SEND_BYTE whose gate passes. -/
theorem execFor_sendBit {i : Instr} {s r : State} {m : Nat} {rest : List Level} (writes : writesAck i = true)
    (enters : Enters i s 0 r) (held : r.sclIn = heldFor m ++ rest) (budget : m < r.stretchTimeout.toNat) :
    execFor i (m + 6) s = .next { r with
      drvScl := .drivingLow, drvSda := if txBit r.sr r.k then .released else .drivingLow
      k := r.k + 1, p := BitVec.ofNat 32 (m + 1), sclIn := rest
      trace := (sendBitEvents r.bitDelay.toNat (txBit r.sr r.k) m).reverse ++ r.trace
      useq := .pos (bitEntry (r.k + 1)) } := by
  have list := micros_of_writesAck writes
  have gate := execFor_gate [.wait .step, .sendBit] enters (by rw [list]; rfl) (by decide)
    (runSegment_sendBit r) held budget
  refine execFor_trans gate (n := 2) (by simp; omega) ?_
  refine execFor_trans (execFor_straight [.wait .step] (.inside rfl) (by rw [list]; rfl) (by simp)
    (by decide) rfl) (n := 1) rfl ?_
  refine Eq.trans (execFor_one (exec_lowerBit (byte_of_writesAck writes) rfl)) ?_
  simp [runSegment, runMicro, delayUnits, Config.dlyStep, sendBitEvents]

theorem runMicro_sampleAck {s : State} {v : Level} {vs : List Level} (shown : s.SdaShows [v] vs) :
    (runMicro .sampleAck s).2 =
      { s with ackLatch := v, sdaIn := vs, trace := .sample .sda v :: s.trace } := by
  simp only [runMicro, sampleAck, sample_sda shown]

/-- The acknowledgement is sampled after a pause (45_byte_transfer R161). -/
theorem runSegment_sampleAck {r : State} {v : Level} {vs : List Level} (shown : r.SdaShows [v] vs) :
    runSegment [.wait .step, .sampleAck] 10 r = { r with
      ackLatch := v, sdaIn := vs, trace := .sample .sda v :: .wait r.bitDelay.toNat :: r.trace
      useq := .pos 12 } := by
  rw [runSegment, runSegment, runSegment,
    runMicro_sampleAck (s := { (runMicro (.wait .step) r).2 with useq := .pos 11 }) shown]
  rfl

/-- The ninth clock of SEND_BYTE whose gate passes, and the end of the command. -/
theorem execFor_sendAck {i : Instr} {s r : State} {m : Nat} {v : Level} {rest vs : List Level}
    (writes : writesAck i = true) (enters : Enters i s 6 r) (held : r.sclIn = heldFor m ++ rest)
    (budget : m < r.stretchTimeout.toNat) (acknowledge : r.sdaIn = v :: vs) :
    execFor i (m + 7) s = .next { r with
      drvScl := .drivingLow, drvSda := .released, ack := v, ackLatch := v
      p := BitVec.ofNat 32 (m + 1), sclIn := rest, sdaIn := vs
      trace := (sendEvents r.bitDelay.toNat r.sr m v r.k.toNat []).reverse ++ r.trace
      err := .ok, busy := false, useq := .idle } := by
  have list := micros_of_writesAck writes
  have gate := execFor_gate [.rl .sda, .wait .step] enters (by rw [list]; rfl) (by decide) rfl held budget
  refine execFor_trans gate (n := 3) (by simp; omega) ?_
  refine execFor_trans (execFor_straight [.wait .step, .sampleAck] (.inside rfl) (by rw [list]; rfl) (by simp)
    (by decide) (runSegment_sampleAck (.inl ⟨rfl, acknowledge⟩))) (n := 1) rfl ?_
  refine Eq.trans (execFor_one (exec_completes (m := .dl .scl) (.inside rfl) (by rw [list]; rfl) rfl
    (by rw [list]; rfl))) ?_
  simp only [finish_of_writesAck writes, sendEvents, List.reverse_append, List.append_assoc]
  rfl

/-- SEND_BYTE from the next bit on, when its gates pass (45_byte_transfer R161): a gate of `ms` for each bit
that is left, and the ninth clock. -/
theorem execFor_sendByte {i : Instr} {m9 : Nat} {v : Level} {rest vs : List Level}
    (writes : writesAck i = true) (ms : List Nat) {s r : State} (enters : Enters i s (bitEntry r.k) r)
    (left : r.k.toNat + ms.length = 8) (budgets : ∀ m ∈ ms, m < r.stretchTimeout.toNat)
    (budget : m9 < r.stretchTimeout.toNat) (held : r.sclIn = ms.flatMap heldFor ++ (heldFor m9 ++ rest))
    (acknowledge : r.sdaIn = v :: vs) :
    execFor i (ms.sum + 6 * ms.length + (m9 + 7)) s = .next { r with
      drvScl := .drivingLow, drvSda := .released, ack := v, ackLatch := v, k := 8#4
      p := BitVec.ofNat 32 (m9 + 1), sclIn := rest, sdaIn := vs
      trace := (sendEvents r.bitDelay.toNat r.sr m9 v r.k.toNat ms).reverse ++ r.trace
      err := .ok, busy := false, useq := .idle } := by
  induction ms generalizing s r with
  | nil =>
    have done : r.k = 8#4 := BitVec.eq_of_toNat_eq left
    rw [done, bitEntry_done] at enters
    simpa [done] using execFor_sendAck writes enters held budget acknowledge
  | cons m ms ih =>
    replace left : r.k.toNat + (ms.length + 1) = 8 := left
    rw [bitEntry_left left] at enters
    have bit := execFor_sendBit writes enters (held.trans (List.append_assoc ..)) (budgets m (.head _))
    have next := toNat_bit_succ left
    refine execFor_trans bit (n := ms.sum + 6 * ms.length + (m9 + 7)) (by simp; omega) ?_
    refine Eq.trans (ih (.inside rfl) ?_ (fun x hx => budgets x (.tail _ hx)) budget rfl acknowledge) ?_
    · simp only [next]; omega
    · simp only [next, sendEvents, txBit, List.reverse_append, List.append_assoc]

/-- Settles O38: the first step loads the byte, and the bit loop runs from bit 7. -/
theorem sendRunsItsStepList : Obligations.SendRunsItsStepList := by
  intro i s b ms m9 rest vs v ready sends eight budgets budget held acknowledge
  obtain ⟨writes, enters⟩ := enters_of_sentByte ready sends
  have run := execFor_sendByte writes ms (r := loadByte b s) enters (by simp [loadByte, eight]) budgets
    budget held acknowledge
  rw [show 55 + ms.sum + m9 = ms.sum + 6 * ms.length + (m9 + 7) by omega]
  exact run

/-! ## RECV -/

theorem runMicro_recvBit {s : State} {v : Level} {vs : List Level} (shown : s.SdaShows [v] vs) :
    (runMicro .recvBit s).2 =
      { s with sr := shiftIn s.sr v, sdaIn := vs, trace := .sample .sda v :: s.trace } := by
  simp only [runMicro, recvBit, sample_sda shown]

/-- A data bit is sampled after a pause (45_byte_transfer R165). -/
theorem runSegment_recvBit {r : State} {v : Level} {vs : List Level} (shown : r.SdaShows [v] vs) :
    runSegment [.wait .step, .recvBit] 3 r = { r with
      sr := shiftIn r.sr v, sdaIn := vs, trace := .sample .sda v :: .wait r.bitDelay.toNat :: r.trace
      useq := .pos 5 } := by
  rw [runSegment, runSegment, runSegment,
    runMicro_recvBit (s := { (runMicro (.wait .step) r).2 with useq := .pos 4 }) shown]
  rfl

/-- One data bit of RECV whose gate passes. -/
theorem execFor_recvBit {a : AckSel} {s r : State} {m : Nat} {v : Level} {rest ds : List Level}
    (enters : Enters (.recv a) s 0 r) (held : r.sclIn = heldFor m ++ rest)
    (budget : m < r.stretchTimeout.toNat) (reads : r.SdaShows [v] ds) :
    execFor (.recv a) (m + 6) s = .next { r with
      drvScl := .drivingLow, sr := shiftIn r.sr v, k := r.k + 1
      p := BitVec.ofNat 32 (m + 1), sclIn := rest, sdaIn := ds
      trace := (.wait r.bitDelay.toNat :: (gateEvents m ++
        [.wait r.bitDelay.toNat, .sample .sda v, .dl .scl])).reverse ++ r.trace
      useq := .pos (bitEntry (r.k + 1)) } := by
  have gate := execFor_gate [.wait .step] enters rfl (by decide) rfl held budget
  refine execFor_trans gate (n := 3) (by simp; omega) ?_
  refine execFor_trans (execFor_straight [.wait .step, .recvBit] (.inside rfl) rfl (by simp)
    (by decide) (runSegment_recvBit reads)) (n := 1) rfl ?_
  refine Eq.trans (execFor_one (exec_lowerBit rfl rfl)) ?_
  simp [runSegment, runMicro, wait, record, delayUnits, Config.dlyStep]

/-- The ninth clock of RECV whose gate passes, and the end of the command. -/
theorem execFor_recvAck {a : AckSel} {s r : State} {m : Nat} {rest : List Level}
    (enters : Enters (.recv a) s 6 r) (held : r.sclIn = heldFor m ++ rest)
    (budget : m < r.stretchTimeout.toNat) :
    execFor (.recv a) (m + 7) s = .next { r with
      drvScl := .drivingLow, drvSda := .released, rxdata := r.sr
      p := BitVec.ofNat 32 (m + 1), sclIn := rest
      trace := (recvEvents r.bitDelay.toNat a m []).reverse ++ r.trace
      err := .ok, busy := false, useq := .idle } := by
  have choice : ∀ x ∈ [ackChoice a, .wait .step], x.straight = true := by
    cases a <;> simp [ackChoice, Micro.straight]
  have gate := execFor_gate (rest := rest) (m := m) [ackChoice a, .wait .step] enters rfl choice rfl
    (by cases a <;> exact held) (by cases a <;> exact budget)
  refine execFor_trans gate (n := 3) (by simp; omega) ?_
  refine execFor_trans (execFor_straight [.wait .step, .dl .scl] (.inside rfl) rfl (by simp)
    (by decide) rfl) (n := 1) rfl ?_
  refine Eq.trans (execFor_one (exec_completes (m := .rl .sda) (.inside rfl) rfl rfl rfl)) ?_
  simp only [recvEvents, List.reverse_append, List.append_assoc]
  cases a <;> rfl

/-- RECV from the next bit on, when its gates pass (45_byte_transfer R165). -/
theorem execFor_recvByte {a : AckSel} {m9 : Nat} {rest vs : List Level} (bits : List (Nat × Level))
    {s r : State} (enters : Enters (.recv a) s (bitEntry r.k) r) (left : r.k.toNat + bits.length = 8)
    (budgets : ∀ q ∈ bits, q.1 < r.stretchTimeout.toNat) (budget : m9 < r.stretchTimeout.toNat)
    (held : r.sclIn = bits.flatMap (fun q => heldFor q.1) ++ (heldFor m9 ++ rest))
    (shown : r.SdaShows (bits.map (·.2)) vs) :
    execFor (.recv a) ((bits.map (·.1)).sum + 6 * bits.length + (m9 + 7)) s = .next { r with
      drvScl := .drivingLow, drvSda := .released
      rxdata := (bits.map (·.2)).foldl shiftIn r.sr, sr := (bits.map (·.2)).foldl shiftIn r.sr, k := 8#4
      p := BitVec.ofNat 32 (m9 + 1), sclIn := rest, sdaIn := vs
      trace := (recvEvents r.bitDelay.toNat a m9 bits).reverse ++ r.trace
      err := .ok, busy := false, useq := .idle } := by
  induction bits generalizing s r with
  | nil =>
    have done : r.k = 8#4 := BitVec.eq_of_toNat_eq left
    rw [done, bitEntry_done] at enters
    simpa [done, shown.done] using execFor_recvAck enters held budget
  | cons q bits ih =>
    obtain ⟨m, v⟩ := q
    replace left : r.k.toNat + (bits.length + 1) = 8 := left
    rw [bitEntry_left left] at enters
    obtain ⟨ds, reads, later⟩ := shown.next
    have bit := execFor_recvBit enters (held.trans (List.append_assoc ..)) (budgets _ (.head _)) reads
    have next := toNat_bit_succ left
    refine execFor_trans bit (n := (bits.map (·.1)).sum + 6 * bits.length + (m9 + 7)) (by simp; omega) ?_
    refine Eq.trans (ih (.inside rfl) ?_ (fun x hx => budgets x (.tail _ hx)) budget rfl later) ?_
    · simp only [next]; omega
    · simp [recvEvents]

/-- A level shifted in is the lowest bit of the double. -/
theorem shiftIn_eq (b : Byte) (v : Level) :
    shiftIn b v = b * 2#8 + BitVec.ofNat 8 (levelBit v).toNat := by
  have disjoint : (b <<< 1) &&& (BitVec.ofBool (levelBit v)).setWidth 8 = 0#8 := by
    ext j hj
    cases j <;> simp
  rw [shiftIn, ← BitVec.add_eq_or_of_and_eq_zero _ _ disjoint, BitVec.shiftLeft_eq_mul_twoPow]
  cases v <;> rfl

/-- Samples shifted in one by one read as a number whose most significant bit came first
(45_byte_transfer R168). -/
theorem foldl_shiftIn (vs : List Level) (b : Byte) :
    vs.foldl shiftIn b = b * BitVec.ofNat 8 (2 ^ vs.length) + BitVec.ofNat 8 (msbValue vs) := by
  induction vs generalizing b with
  | nil => simp [msbValue]
  | cons v vs ih =>
    rw [List.foldl_cons, ih, shiftIn_eq]
    simp [msbValue, BitVec.ofNat_add, BitVec.ofNat_mul, pow_succ]
    ring

/-- Settles O39: the samples of the bit loop are shifted into an empty register. -/
theorem recvRunsItsStepList : Obligations.RecvRunsItsStepList := by
  intro a s bits m9 rest vs ready released eight budgets budget held presented
  obtain ⟨first, opened⟩ := ready
  have enters : Enters (.recv a) s 0 (loadByte 0 s) :=
    .first first (by simp [commandOf, recvCommand, needsOpen, opened])
  have run := execFor_recvByte bits (r := loadByte 0 s) enters (by simp [loadByte, eight]) budgets
    budget held (.inl ⟨released, presented⟩)
  have value : (bits.map (·.2)).foldl shiftIn 0 = BitVec.ofNat 8 (msbValue (bits.map (·.2))) := by
    simp [foldl_shiftIn]
  rw [show 55 + (bits.map (·.1)).sum + m9 = (bits.map (·.1)).sum + 6 * bits.length + (m9 + 7) by omega,
    ← value]
  exact run

end Sys2Proof.Machine
end

section

/-!
The encoding (30_encoding R80 to R91). Every row of the opcode map fixes `op` and the fields that its `op` does
not use, and no two rows have the same `op`; so a word matches at most one row, and `decode` is the map from a
word to the command of the row it matches. The round trips and the must-be-zero rule follow row by row.
-/

namespace Sys2Proof

/-! ## `op` tells the rows apart (30_encoding R89) -/

/-- The rows' `op` values differ. -/
theorem opRows_op_nodup : (opRows.map fun r => opField r.pattern).Nodup := by decide

/-- The fields of a masked word are the fields of the word under those of the mask. -/
@[simp] theorem opField_and (v w : Word) : opField (v &&& w) = opField v &&& opField w :=
  BitVec.extractLsb'_and

/-- As `opField_and`, for `imm8`. -/
@[simp] theorem imm8Field_and (v w : Word) : imm8Field (v &&& w) = imm8Field v &&& imm8Field w :=
  BitVec.extractLsb'_and

/-- As `opField_and`, for `N`. -/
@[simp] theorem nField_and (v w : Word) : nField (v &&& w) = nField v &&& nField w :=
  BitVec.extractLsb'_and

/-- `op` is in every mask, so a word has the `op` of a row that it matches. -/
theorem opField_of_hits {r : OpRow} {w : Word} (row : r ∈ opRows) (hits : r.hits w = true) :
    opField w = opField r.pattern := by
  have masked : ∀ r ∈ opRows, opField r.mask = BitVec.allOnes 4 := by decide
  have same := congrArg opField (beq_iff_eq.mp hits)
  rwa [opField_and, masked r row, BitVec.and_allOnes] at same

/-- Two rows that one word matches are one row. -/
theorem row_unique {r r' : OpRow} {w : Word} (row : r ∈ opRows) (row' : r' ∈ opRows)
    (hits : r.hits w = true) (hits' : r'.hits w = true) : r = r' :=
  List.inj_on_of_nodup_map opRows_op_nodup row row'
    ((opField_of_hits row hits).symm.trans (opField_of_hits row' hits'))

/-! ## What `decode` answers (30_encoding R86, R88) -/

/-- A word that matches a row is the row's command. -/
theorem decode_of_hits {r : OpRow} {w : Word} (row : r ∈ opRows) (hits : r.hits w = true) :
    decode w = .ok (r.build w) := by
  unfold decode
  split
  case h_1 r' found =>
    rw [row_unique (List.mem_of_find?_eq_some found) row (List.find?_some (p := (OpRow.hits · w)) found) hits]
  case h_2 missing => exact absurd hits (List.find?_eq_none.mp missing r row)

/-- A word that decodes matches a row, and is that row's command. -/
theorem exists_row_of_decode {w : Word} {i : Instr} (word : decode w = .ok i) :
    ∃ r ∈ opRows, r.hits w = true ∧ r.build w = i := by
  unfold decode at word
  split at word
  case h_1 r found =>
    cases word
    exact ⟨r, List.mem_of_find?_eq_some found, List.find?_some (p := (OpRow.hits · w)) found, rfl⟩
  case h_2 => split at word <;> cases word

/-- A word is a command exactly when it matches a row. -/
theorem decode_ok_iff (w : Word) : (∃ i, decode w = .ok i) ↔ ∃ r ∈ opRows, r.hits w = true := by
  constructor
  · rintro ⟨i, word⟩
    obtain ⟨r, row, hits, -⟩ := exists_row_of_decode word
    exact ⟨r, row, hits⟩
  · rintro ⟨r, row, hits⟩
    exact ⟨_, decode_of_hits row hits⟩

/-- A word is illegal exactly when it is no command. -/
theorem decode_error_iff (w : Word) : (∃ e, decode w = .error e) ↔ ¬ ∃ i, decode w = .ok i := by
  cases decode w <;> simp

/-- Settles O3: a word has the `op` of each row it matches, and the rows' `op` values differ. -/
theorem rowsMatchAtMostOnce : Obligations.RowsMatchAtMostOnce := by
  intro w
  refine ⟨fun j k hits hits' => ?_, by simp [decode_error_iff, decode_ok_iff]⟩
  have same := row_unique (List.getElem_mem _) (List.getElem_mem _) hits hits'
  have nodup : opRows.Nodup := opRows_op_nodup.of_map
  exact Fin.ext (nodup.getElem_inj_iff.mp same)

/-! ## The fields of a word (30_encoding R81 to R85) -/

/-- The encoding puts DELAY's operand into `N`. -/
@[simp] theorem nField_encode_delay (n : BitVec 16) : nField (encode (.delay n)) = n := by
  ext j hj
  simp only [nField, encode, BitVec.getElem_extractLsb', BitVec.getLsbD_or, BitVec.getLsbD_shiftLeft]
  interval_cases j <;> simp

/-- The encoding puts SEND's operand into `imm8`. -/
@[simp] theorem imm8Field_encode_send (b : Byte) : imm8Field (encode (.send b)) = b := by
  ext j hj
  simp only [imm8Field, encode, BitVec.getElem_extractLsb', BitVec.getLsbD_or, BitVec.getLsbD_shiftLeft]
  interval_cases j <;> simp

/-! ## Encode, then decode (30_encoding R86, R90) -/

/-- The opcode map has a row for every command: the command's word matches it (the family `RowMatch`), and it
reads the operands back from that word. -/
theorem exists_row_of_instr (i : Instr) :
    ∃ r ∈ opRows, r.hits (encode i) = true ∧ r.build (encode i) = i := by
  suffices row : ∃ r ∈ opRows, encode i &&& r.mask = r.pattern ∧ r.build (encode i) = i by
    simpa only [OpRow.hits, beq_iff_eq] using row
  cases i with
  | openSession => exact ⟨opRows[0], List.getElem_mem _, Laws.RowMatch.openSession, rfl⟩
  | driveLow l => exact ⟨opRows[1], List.getElem_mem _, Laws.RowMatch.driveLow l, by cases l <;> rfl⟩
  | release l => exact ⟨opRows[2], List.getElem_mem _, Laws.RowMatch.release l, by cases l <;> rfl⟩
  | read l => exact ⟨opRows[3], List.getElem_mem _, Laws.RowMatch.read l, by cases l <;> rfl⟩
  | delay n =>
    exact ⟨opRows[4], List.getElem_mem _, Laws.RowMatch.delay n, congrArg Instr.delay (nField_encode_delay n)⟩
  | raiseScl => exact ⟨opRows[5], List.getElem_mem _, Laws.RowMatch.raiseScl, rfl⟩
  | busfree => exact ⟨opRows[6], List.getElem_mem _, Laws.RowMatch.busfree, rfl⟩
  | start => exact ⟨opRows[7], List.getElem_mem _, Laws.RowMatch.start, rfl⟩
  | restart => exact ⟨opRows[8], List.getElem_mem _, Laws.RowMatch.restart, rfl⟩
  | stop => exact ⟨opRows[9], List.getElem_mem _, Laws.RowMatch.stop, rfl⟩
  | send b =>
    exact ⟨opRows[10], List.getElem_mem _, Laws.RowMatch.send b, congrArg Instr.send (imm8Field_encode_send b)⟩
  | senda rw => exact ⟨opRows[11], List.getElem_mem _, Laws.RowMatch.senda rw, by cases rw <;> rfl⟩
  | recv a => exact ⟨opRows[12], List.getElem_mem _, Laws.RowMatch.recv a, by cases a <;> rfl⟩

/-- Settles O1: a command's word matches the command's row, which reads the operands back. -/
theorem decodeOfEncode : Obligations.DecodeOfEncode := by
  intro i
  obtain ⟨r, row, hits, reads⟩ := exists_row_of_instr i
  rw [decode_of_hits row hits, reads]

/-! ## Decode, then encode (30_encoding R86, R87) -/

/-- `L` is bit 4 of a word (30_encoding R84). -/
theorem lineBit_lineField (w : Word) : lineBit (lineField w) <<< 4 = w &&& 0x10#32 := by
  rw [show 0x10#32 = BitVec.twoPow 32 4 from rfl, BitVec.and_twoPow, lineField]
  split <;> rfl

/-- SENDA's `A` is bit 5 of a word (30_encoding R85). -/
theorem rwBit_rwField (w : Word) : rwBit (rwField w) <<< 5 = w &&& 0x20#32 := by
  rw [show 0x20#32 = BitVec.twoPow 32 5 from rfl, BitVec.and_twoPow, rwField]
  split <;> rfl

/-- RECV's `A` is bit 5 of a word (30_encoding R85). -/
theorem ackBit_ackField (w : Word) : ackBit (ackField w) <<< 5 = w &&& 0x20#32 := by
  rw [show 0x20#32 = BitVec.twoPow 32 5 from rfl, BitVec.and_twoPow, ackField]
  split <;> rfl

/-- `imm8` is the bits 15:8 of a word (30_encoding R82). -/
theorem imm8Field_shiftLeft (w : Word) : (imm8Field w).setWidth 32 <<< 8 = w &&& 0xFF00#32 := by
  ext j hj
  simp only [imm8Field, BitVec.getElem_shiftLeft, BitVec.getElem_and]
  interval_cases j <;> simp

/-- `N` is the bits 31:16 of a word (30_encoding R83). -/
theorem nField_shiftLeft (w : Word) : (nField w).setWidth 32 <<< 16 = w &&& 0xFFFF0000#32 := by
  ext j hj
  simp only [nField, BitVec.getElem_shiftLeft, BitVec.getElem_and]
  interval_cases j <;> simp

/-- The word of the command that a row builds from any word is the row's pattern, with the bits outside the
mask taken from the word. -/
theorem encode_build {r : OpRow} (w : Word) (row : r ∈ opRows) :
    encode (r.build w) = r.pattern ||| (w &&& ~~~r.mask) := by
  revert r
  simp [opRows, encode, lineBit_lineField, rwBit_rwField, ackBit_ackField, imm8Field_shiftLeft, nField_shiftLeft]

/-- Settles O2: the mask's bits are those of the pattern, and the row's operands keep the other bits. -/
theorem encodeOfDecode : Obligations.EncodeOfDecode := by
  intro w i word
  obtain ⟨r, row, hits, rfl⟩ := exists_row_of_decode word
  calc encode (r.build w) = r.pattern ||| (w &&& ~~~r.mask) := encode_build w row
    _ = (w &&& r.mask) ||| (w &&& ~~~r.mask) := by rw [beq_iff_eq.mp hits]
    _ = w := by rw [← BitVec.and_or_distrib_left, BitVec.or_not_self, BitVec.and_allOnes]

/-! ## The must-be-zero fields (30_encoding R87) -/

/-- The ops that use `L`. -/
abbrev UsesL (o : BitVec 4) : Prop := o = 0x2#4 ∨ o = 0x3#4 ∨ o = 0x4#4

/-- The ops that use `A`. -/
abbrev UsesA (o : BitVec 4) : Prop := o = 0xC#4 ∨ o = 0xD#4

/-- Words that agree in a run of bits agree in each of its bits. -/
theorem getLsbD_eq_of_extractLsb'_eq {v w : Word} {start len j : Nat}
    (same : v.extractLsb' start len = w.extractLsb' start len) (lo : start ≤ j) (hi : j < start + len) :
    v.getLsbD j = w.getLsbD j := by
  obtain ⟨k, rfl⟩ := Nat.exists_eq_add_of_le lo
  have inside : k < len := by omega
  simpa [inside] using congrArg (·.getLsbD k) same

/-- Two words are equal exactly when they agree in every field (30_encoding R81). -/
theorem word_eq_iff (v w : Word) : v = w ↔
    opField v = opField w ∧ v.extractLsb' 6 2 = w.extractLsb' 6 2 ∧ v.getLsbD 4 = w.getLsbD 4 ∧
    v.getLsbD 5 = w.getLsbD 5 ∧ imm8Field v = imm8Field w ∧ nField v = nField w := by
  constructor
  · rintro rfl; simp
  · rintro ⟨op, z, line, ack, imm8, n⟩
    refine BitVec.eq_of_getLsbD_eq fun j hj => ?_
    obtain h | rfl | rfl | h | h | h :
        j < 4 ∨ j = 4 ∨ j = 5 ∨ 6 ≤ j ∧ j < 8 ∨ 8 ≤ j ∧ j < 16 ∨ 16 ≤ j := by omega
    · exact getLsbD_eq_of_extractLsb'_eq op (Nat.zero_le j) (by omega)
    · exact line
    · exact ack
    · exact getLsbD_eq_of_extractLsb'_eq z h.1 h.2
    · exact getLsbD_eq_of_extractLsb'_eq imm8 h.1 h.2
    · exact getLsbD_eq_of_extractLsb'_eq n h hj

/-- The row's mask fixes `op`, `Z` and every other field that the row's op does not use, and its pattern has 0 in
each field but `op`. -/
structure OpRow.FixesUnusedFields (r : OpRow) : Prop where
  op : opField r.mask = BitVec.allOnes 4
  z : r.mask.extractLsb' 6 2 = BitVec.allOnes 2 ∧ r.pattern.extractLsb' 6 2 = 0#2
  line : r.mask.getLsbD 4 = !decide (UsesL (opField r.pattern)) ∧ r.pattern.getLsbD 4 = false
  ack : r.mask.getLsbD 5 = !decide (UsesA (opField r.pattern)) ∧ r.pattern.getLsbD 5 = false
  imm8 : imm8Field r.mask = (if opField r.pattern = 0xB#4 then 0#8 else BitVec.allOnes 8) ∧
    imm8Field r.pattern = 0#8
  n : nField r.mask = (if opField r.pattern = 0x5#4 then 0#16 else BitVec.allOnes 16) ∧
    nField r.pattern = 0#16

/-- Every row of the opcode map is such a row (30_encoding R87: "The masks of rule R86 include every such bit"). -/
theorem fixesUnusedFields : ∀ r ∈ opRows, r.FixesUnusedFields := by
  simp only [opRows, List.forall_mem_cons, List.not_mem_nil, false_implies, implies_true, and_true]
  and_intros <;> constructor <;> decide

/-- A masked field is 0 exactly when a value in it means that it is used. -/
theorem and_unused_eq_zero {n : Nat} (x : BitVec n) (used : Prop) [Decidable used] :
    x &&& (if used then 0#n else BitVec.allOnes n) = 0#n ↔ (x ≠ 0#n → used) := by
  split <;> simp [*]

/-- The same for a field of one bit. -/
theorem and_unused_eq_false (b : Bool) (used : Prop) [Decidable used] :
    (b && !decide used) = false ↔ (b = true → used) := by
  cases b <;> simp

/-- A word matches such a row exactly when its fields are as the row asks. -/
theorem hits_iff {r : OpRow} (w : Word) (h : r.FixesUnusedFields) : r.hits w = true ↔
    opField w = opField r.pattern ∧ w.extractLsb' 6 2 = 0#2 ∧
    (w.getLsbD 4 = true → UsesL (opField r.pattern)) ∧
    (w.getLsbD 5 = true → UsesA (opField r.pattern)) ∧
    (imm8Field w ≠ 0#8 → opField r.pattern = 0xB#4) ∧
    (nField w ≠ 0#16 → opField r.pattern = 0x5#4) := by
  simp only [OpRow.hits, beq_iff_eq, word_eq_iff, opField_and, imm8Field_and, nField_and, BitVec.extractLsb'_and,
    BitVec.getLsbD_and, h.op, h.z, h.line, h.ack, h.imm8, h.n, BitVec.and_allOnes, and_unused_eq_zero,
    and_unused_eq_false]

/-- The ops of the rows are all but 0x0, 0xE and 0xF (30_encoding R88). -/
theorem assigned_iff (o : BitVec 4) :
    (∃ r ∈ opRows, opField r.pattern = o) ↔ o ≠ 0x0#4 ∧ o ≠ 0xE#4 ∧ o ≠ 0xF#4 := by
  revert o
  decide

/-- Settles O4: an assigned op has its one row, and matching that row is the condition on the fields. -/
theorem unusedFieldsMustBeZero : Obligations.UnusedFieldsMustBeZero := by
  intro w
  rw [decode_ok_iff]
  constructor
  · rintro ⟨r, row, hits⟩
    obtain ⟨op, zeros⟩ := (hits_iff w (fixesUnusedFields r row)).mp hits
    obtain ⟨h0, hE, hF⟩ := (assigned_iff (opField w)).mp ⟨r, row, op.symm⟩
    rw [← op] at zeros
    exact ⟨h0, hE, hF, zeros⟩
  · rintro ⟨h0, hE, hF, zeros⟩
    obtain ⟨r, row, op⟩ := (assigned_iff (opField w)).mpr ⟨h0, hE, hF⟩
    exact ⟨r, row, (hits_iff w (fixesUnusedFields r row)).mpr (by rw [op]; exact ⟨rfl, zeros⟩)⟩

/-! ## The assembler (30_encoding R91) -/

/-- The address byte as a number (45_byte_transfer R163). -/
theorem addressByte_eq (a : BitVec 7) (rw : RwSel) :
    Machine.addressByte a rw = BitVec.ofNat 8 (2 * a.toNat + (rwBit rw).toNat) := by
  have bit : (Machine.rwSelBit rw).toNat = (rwBit rw).toNat := by cases rw <;> rfl
  have small : (rwBit rw).toNat < 2 ^ 1 := by cases rw <;> decide
  apply BitVec.eq_of_toNat_eq
  have bound := a.isLt
  rw [Machine.addressByte, BitVec.toNat_append, bit, ← Nat.shiftLeft_add_eq_or_of_lt small, Nat.shiftLeft_eq,
    BitVec.toNat_ofNat]
  omega

/-- Settles O6: the operand check is the range of SLAVE_ADDR, and the expansion builds the address byte. -/
theorem sendAddrSendsTheAddressByte : Obligations.SendAddrSendsTheAddressByte := by
  intro a rw
  constructor
  · intro small
    have addr : (BitVec.ofNat 7 a).toNat = a := Nat.mod_eq_of_lt small
    rw [addressByte_eq, addr]
    simp [assemble, AsmLine.wellFormed, AsmLine.expand, small]
  · intro large
    simp [assemble, AsmLine.wellFormed, large]

/-! ## Words written out (95_test_vectors 2.1) -/

/-- Settles O5: ten of the words are encodings, so they decode back; the two illegal ones match no row. -/
theorem sampleWordsDecode : Obligations.SampleWordsDecode :=
  ⟨decodeOfEncode .openSession, decodeOfEncode (.driveLow .sda), decodeOfEncode (.release .scl),
    decodeOfEncode (.read .sda), decodeOfEncode (.delay 300), decodeOfEncode .raiseScl, decodeOfEncode .restart,
    decodeOfEncode (.send 0x42), decodeOfEncode (.senda .read), decodeOfEncode (.recv .ack), rfl, rfl⟩

end Sys2Proof

namespace Sys2Proof.Machine

/-! ## Illegal words (30_encoding R88, 60_exceptions R181) -/

/-- The controller's turn in a busy block out of reset, on an illegal word. -/
theorem controllerTurn_of_illegal {s : State} {e : IllegalWord} (released : s.rst = false)
    (busy : s.busy = true) (word : decode s.cur = .error e) : controllerTurn s = execIllegal s := by
  simp [controllerTurn, released, busy, word]

/-- An illegal word ends at its first controller step. -/
theorem execIllegal_of_first {s : State} (first : s.useq = .first) :
    execIllegal s = .next (endCommand .illegalCommand s) := by
  rw [execIllegal, runCommand, first]
  exact congrArg Host.Outcome.next (raiseError_ends s rfl)

/-- Settles O20: listed or not, the controller's turn is the first step of an illegal word. -/
theorem illegalWordEndsWithoutMicroOperation : Obligations.IllegalWordEndsWithoutMicroOperation := by
  intro s e released busy first word
  refine ⟨fun empty => ?_, fun ts turn => ?_⟩
  · have moves : step s = controllerTurn s := by simp only [step, nextTurn, empty]
    rw [moves, controllerTurn_of_illegal released busy word, execIllegal_of_first first]
    rfl
  · have moves : step s = controllerTurn { s with sched := ts } := by
      simp only [step, nextTurn, turn, takeTurn]
    rw [moves, controllerTurn_of_illegal (s := { s with sched := ts }) released busy word,
      execIllegal_of_first (s := { s with sched := ts }) first]
    rfl

end Sys2Proof.Machine
end

section

/-!
Session open (40_open R100 to R103), and the last step of every command of several steps.
-/

namespace Sys2Proof.Machine

/-! ## Steps that end a command -/

/-- A check that does not pass ends the command at its first step (60_exceptions R181). -/
theorem exec_turnedAway {i : Instr} {s : State} {e : ErrCode} (first : s.useq = .first)
    (refused : (commandOf i).check s = some e) : exec i s = .next (endCommand e s) := by
  rw [exec_eq_runCommand, runCommand, first]
  simp only [refused]
  rw [raiseError_ends s (check_not_aborts refused)]

/-- An entry raises an error. -/
theorem exec_fails {i : Instr} {n : Nat} {m : Micro} {e : ErrCode} {s r t : State}
    (enters : Enters i s n r) (entry : (commandOf i).micros[n]? = some m)
    (runs : runMicro m r = (.fail e, t)) : exec i s = .next (raiseError e t) := by
  rw [exec_of_enters enters, microStep, entry]
  simp [runs]

/-- A command in the middle of its list completes with the last entry, which goes nowhere else. -/
theorem exec_last {i : Instr} {n : Nat} {m : Micro} {s t : State} (at_entry : s.useq = .pos n)
    (entry : (commandOf i).micros[n]? = some m) (last : n + 1 = (commandOf i).micros.length)
    (straight : m.straight = true) (result : complete ((commandOf i).finish (runMicro m s).2) = t) :
    exec i s = .next t :=
  result ▸ exec_completes (.inside at_entry) entry (Prod.ext (runMicro_straight s straight) rfl) last

/-! ## OPEN -/

/-- OPEN enters its list from a closed session with its configuration set. -/
theorem enters_openSession {s : State} (first : s.useq = .first) (closed : s.opened = false)
    (delay : s.bitDelay ≠ 0#32) (timeout : s.stretchTimeout ≠ 0#32) : Enters .openSession s 0 s :=
  .first first (by simp [check_openSession, openCheck, closed, delay, timeout])

/-- The INIT entry with the answer drawn (40_open R101). -/
theorem runMicro_init {s u : State} {b : Bool} (answer : drawInit s = (b, u)) :
    runMicro .init s = (if b then .advance else .fail .subsystemInitFailed,
      { u with initReq := false, trace := .init b :: s.trace }) := by
  simp only [runMicro, initStep, initRequest_eq answer]

/-- Settles O22: INIT is the entry of OPEN's first step, and it goes on or fails with its answer. -/
theorem openAsksTheSubsystemOnce : Obligations.OpenAsksTheSubsystemOnce := by
  intro s u b first closed delay timeout answer
  have enters := enters_openSession first closed delay timeout
  have runs := runMicro_init answer
  cases b with
  | true => exact exec_goesOn enters rfl runs rfl (by simp)
  | false => exact exec_fails enters rfl runs

/-- Settles O23: INIT answers ok, `RL(SCL)` is a straight entry, and `RL(SDA)` is the last one. -/
theorem openRunsToOpened : Obligations.OpenRunsToOpened := by
  intro s bs first closed delay timeout ok
  have init := openAsksTheSubsystemOnce s { s with initIn := bs } true first closed delay timeout
    (by simp [drawInit, ok])
  rw [if_pos rfl] at init
  rw [execFor_succ 2 init, execFor_succ 1 (exec_goesOn (.inside rfl) rfl rfl rfl (by simp))]
  exact execFor_one (exec_last rfl rfl rfl rfl rfl)

/-! ## A closed session -/

/-- Only a step of OPEN opens a session (10_state R30). -/
theorem MachineStep.opens {s t : State} (step : MachineStep s t) (before : s.opened = false)
    (after : t.opened = true) : ∃ ts, decode s.cur = .ok .openSession ∧
      ExecStep .openSession { s with sched := ts } t := by
  cases step with
  | rests | reads | resumes | rejects | rejectedAborts => simp [finishAbort, before] at after
  | runs _ _ _ word step =>
    obtain same | ⟨rfl, -⟩ := step.opened
    · simp [same, before] at after
    · exact ⟨_, word, step⟩
  | @writes ts _ v r =>
    obtain ⟨_, _, _, _, _, _, _, _, written⟩ := hostWrite_frame r v { s with sched := ts }
    rw [written] at after
    simp [before] at after
  | resets => cases released : s.rst <;> simp [assertReset, released, before, State.reset] at after

/-- A step from a closed session leaves both lines released: the session stays closed, or the step is OPEN's,
which releases lines only (40_open R102). -/
theorem State.Inv.released_after_step {s t : State} (h : s.Inv) (closed : s.opened = false)
    (moves : step s = .next t) : t.drvScl = .released ∧ t.drvSda = .released := by
  cases after : t.opened with
  | false => exact (everyStepKeepsTheInvariant s t h moves).released_unopened after
  | true =>
    obtain ⟨scl, sda⟩ := h.released_unopened closed
    obtain ⟨ts, word, opens⟩ := (machineStep_of_step moves).opens closed after
    obtain ⟨drv, -⟩ := (h.with_host ts s.reads).openSession_frame word opens
    exact ⟨(drv .scl).elim (·.trans scl) id, (drv .sda).elim (·.trans sda) id⟩

/-- Settles O52: in a closed session both lines are released before and after a step, and the check that
turns every command but OPEN away is the first one. -/
theorem noLineMovesBeforeOpen : Obligations.NoLineMovesBeforeOpen := by
  refine ⟨fun s t h closed moves => ?_, fun i s hi first closed => ?_⟩
  · obtain ⟨scl, sda⟩ := h.released_unopened closed
    obtain ⟨scl', sda'⟩ := h.released_after_step closed moves
    exact ⟨scl'.trans scl.symm, sda'.trans sda.symm⟩
  · exact exec_turnedAway first (by simp [check_of_ne_openSession hi, needsOpen, closed])

/-! ## Completion of the commands of several steps -/

/-- SAMPLE2 of two released lines takes what the environment presents next on each (00_scope R14, R16). -/
theorem sample2_released {s : State} {c d : Level} {cs ds : List Level} (scl : s.drvScl = .released)
    (sda : s.drvSda = .released) (clock : s.sclIn = c :: cs) (data : s.sdaIn = d :: ds) :
    sample2 s = ((c, d), { s with sclIn := cs, sdaIn := ds, trace := .sample2 c d :: s.trace }) := by
  obtain ⟨-, first, -⟩ := lineLevelIsWiredAnd s .scl
  obtain ⟨-, second, -⟩ := lineLevelIsWiredAnd (s.setLineIn .scl cs) .sda
  simp only [sample2, first c cs scl clock, second d ds sda data]
  rfl

/-- One poll of two released lines within the budget (44_conditions R140). -/
theorem runMicro_busPoll_released {s : State} {c d : Level} {cs ds : List Level}
    (budget : s.p ≠ s.stretchTimeout) (scl : s.drvScl = .released) (sda : s.drvSda = .released)
    (clock : s.sclIn = c :: cs) (data : s.sdaIn = d :: ds) :
    runMicro .busPoll s = (if c = .high ∧ d = .high then .advance else .stay,
      { s with p := s.p + 1, sclIn := cs, sdaIn := ds, trace := .sample2 c d :: s.trace }) := by
  have sampled : sample2 { s with p := s.p + 1 } = _ := sample2_released scl sda clock data
  simp only [runMicro, busPoll, if_neg budget, sampled]

/-- Settles O43: each clause runs the last entry of its list, a poll that succeeds or a straight entry. -/
theorem lastStepWritesTheResult : Obligations.LastStepWritesTheResult := by
  intro s
  refine ⟨fun at_entry => ?openSession, fun vs at_entry budget released level => ?raiseScl,
    fun cs ds at_entry budget scl sda clock data => ?busfree, fun at_entry => ?start,
    fun at_entry => ?restart, fun at_entry => ?stop, fun b at_entry => ?send,
    fun sel at_entry => ?senda, fun a at_entry => ?recv⟩
  case raiseScl => exact exec_completes (.inside at_entry) rfl (runMicro_gatePoll released level budget) rfl
  case busfree =>
    exact exec_completes (.inside at_entry) rfl (runMicro_busPoll_released budget scl sda clock data) rfl
  all_goals exact exec_last at_entry rfl rfl rfl rfl

end Sys2Proof.Machine
end

section

/-!
Line driver (41_line_driver R110 to R112): each of its commands is a list of one straight entry.
-/

namespace Sys2Proof.Machine

/-! ## Commands of one entry -/

/-- In an open session every command but OPEN passes its checks and enters its list. -/
theorem enters_of_ready {i : Instr} {s : State} (hi : i ≠ .openSession) (ready : s.ready) :
    Enters i s 0 ((commandOf i).prepare s) := by
  obtain ⟨first, opened⟩ := ready
  exact .first first (by simp [check_of_ne_openSession hi, needsOpen, opened])

/-- A command whose list is one straight entry completes at its first step. -/
theorem exec_only {i : Instr} {m : Micro} {s t : State} (ready : s.ready)
    (only : (commandOf i).micros = [m]) (hi : i ≠ .openSession)
    (runs : runMicro m ((commandOf i).prepare s) = (.advance, t)) :
    exec i s = .next (complete ((commandOf i).finish t)) :=
  exec_completes (enters_of_ready hi ready) (by simp [only]) runs (by simp [only])

/-! ## The entries of the line driver -/

/-- `DL(l)` (00_scope R11): the event goes onto the trace whatever the line's drive state was. -/
theorem runMicro_dl (l : Line) (s : State) : runMicro (.dl l) s =
    (.advance, { s.setDrv l .drivingLow with trace := .dl l :: s.trace }) := by
  simp only [runMicro, driveLow, record, State.setDrv_trace]

/-- `RL(l)` (00_scope R12): the event goes onto the trace whatever the line's drive state was. -/
theorem runMicro_rl (l : Line) (s : State) : runMicro (.rl l) s =
    (.advance, { s.setDrv l .released with trace := .rl l :: s.trace }) := by
  simp only [runMicro, release, record, State.setDrv_trace]

/-- READ's sample in terms of the level read: reading the line adds nothing to the trace, the sample adds
its event. -/
theorem runMicro_readLevel {l : Line} {s u : State} {v : Level} (read : lineLevel l s = (v, u)) :
    runMicro (.readLevel l) s =
      (.advance, { u with level := v, trace := .sample l v :: s.trace }) := by
  have trace : u.trace = s.trace := by simpa only [read] using lineLevel_trace l s
  simp only [runMicro, readLevel, sample, record, read, trace]

/-! ## DRIVE_LOW, RELEASE, READ -/

/-- Settles O24: `DL(l)` and `RL(l)` are the only entries of their commands. -/
theorem driveLowAndReleaseSetOneLine : Obligations.DriveLowAndReleaseSetOneLine := by
  intro s l ready
  exact ⟨exec_only ready (micros_driveLow l) nofun (runMicro_dl l s),
    exec_only ready (micros_release l) nofun (runMicro_rl l s)⟩

/-- Settles O26: the sample is READ's only entry, and the wired-AND makes a driven line read Low. -/
theorem readStoresTheSampledLevel : Obligations.ReadStoresTheSampledLevel := by
  intro s u l v ready read
  refine ⟨exec_only ready (micros_read l) nofun (runMicro_readLevel read), fun driven => ?_⟩
  obtain ⟨low, -, -⟩ := lineLevelIsWiredAnd s l
  have same : (v, u) = (.low, s) := read.symm.trans (low driven)
  exact congrArg Prod.fst same

end Sys2Proof.Machine
end

section

/-!
Timing primitive (42_timing R120): DELAY is a list of one WAIT entry.
-/

namespace Sys2Proof.Machine

/-- A WAIT entry records its length in units and takes nothing from the environment (00_scope R15). -/
theorem runMicro_wait (d : DelayLen) (s : State) : runMicro (.wait d) s =
    (.advance, { s with trace := .wait (delayUnits d s.bitDelay) :: s.trace }) := by
  simp only [runMicro, wait, record]

/-- DELAY's operand is its length in units, whatever `BIT_DELAY` is (42_timing R120). -/
theorem delayUnits_units (n : BitVec 16) (bd : Word) : delayUnits (.units n) bd = n.toNat := rfl

/-- Settles O27: the WAIT of the raw operand is DELAY's only entry. -/
theorem delayRecordsItsUnits : Obligations.DelayRecordsItsUnits := by
  intro s n ready
  have runs := runMicro_wait (.units n) s
  rw [delayUnits_units] at runs
  exact exec_only ready (micros_delay n) nofun runs

end Sys2Proof.Machine
end

section

/-!
Clock-stretch gate (43_stretch_gate R130 to R133): how long a gate blocks, and how it ends.
-/

namespace Sys2Proof.Machine

/-! ## A gate from its first poll (43_stretch_gate R130) -/

/-- The second step of the abort release ends the command (60_exceptions R184). -/
theorem exec_abort {i : Instr} {s : State} {e : ErrCode} (abort : s.useq = .abort e) :
    exec i s = .next (finishAbort e s) := by
  rw [exec_eq_runCommand, runCommand, abort]

/-- A poll loop whose budget is used up takes no sample, and the two steps of the abort release end the command
(60_exceptions R182, R184). -/
theorem execFor_pollFails {i : Instr} {n : Nat} {m : Micro} {e : ErrCode} {s : State}
    (at_entry : s.useq = .pos n) (entry : (commandOf i).micros[n]? = some m)
    (spent : runMicro m s = (.fail e, s)) (aborts : e.aborts = true) :
    execFor i 2 s = .next (endCommand e (release .sda (release .scl s))) := by
  have fails := exec_fails (.inside at_entry) entry spent
  rw [raiseError_aborts s aborts] at fails
  rw [execFor_succ 1 fails, execFor_one (exec_abort rfl)]
  rfl

theorem runMicro_gatePoll_spent {s : State} (spent : s.p = s.stretchTimeout) :
    runMicro .gatePoll s = (.fail .clockHeld, s) := by
  simp only [runMicro, gatePoll, if_pos spent]

/-- A peer that holds SCL for at least `k` samples holds it for `k`, and then for the rest of them. -/
theorem heldFor_split {k m : Nat} (le : k ≤ m) :
    heldFor m = List.replicate k .low ++ heldFor (m - k) := by
  obtain ⟨j, rfl⟩ := Nat.exists_eq_add_of_le le
  rw [Nat.add_sub_cancel_left, heldFor, heldFor, List.replicate_add, List.append_assoc]

/-- Settles O28: after the Low samples that the budget allows, the next poll finds SCL High, or finds the budget
used up. -/
theorem gateBlocksUntilReleased : Obligations.GateBlocksUntilReleased := by
  intro i s n m rest entry at_entry start released held
  constructor
  case left =>
    rintro budget u rfl
    have low := execFor_gatePoll_low (m := m) (rest := .high :: rest) at_entry entry released
      (by simp [held, heldFor]) (by simp [start]; omega)
    have budgetLeft : s.p + BitVec.ofNat 32 m ≠ s.stretchTimeout := fun spent => by
      rw [← spent, start] at budget
      simp at budget
      omega
    have high := runMicro_gatePoll (s := { s with
      p := s.p + BitVec.ofNat 32 m, sclIn := .high :: rest,
      trace := List.replicate m (.sample .scl .low) ++ s.trace }) released rfl budgetLeft
    have counted : s.p + BitVec.ofNat 32 m + 1 = BitVec.ofNat 32 (m + 1) := by
      simp [start, BitVec.ofNat_add]
    simp only [counted] at high
    rw [execFor_add m 1 low]
    split
    case isTrue more => exact execFor_one (exec_goesOn (.inside at_entry) entry high rfl more)
    case isFalse last =>
      have inList := (List.getElem?_eq_some_iff.mp entry).1
      exact execFor_one (exec_completes (.inside at_entry) entry high (by omega))
  case right =>
    intro budget
    have low := execFor_gatePoll_low (m := s.stretchTimeout.toNat) at_entry entry released
      (by rw [held, heldFor_split budget, List.append_assoc]) (by simp [start])
    have counted : s.p + BitVec.ofNat 32 s.stretchTimeout.toNat = s.stretchTimeout := by simp [start]
    rw [counted] at low
    rw [execFor_add _ 2 low]
    exact execFor_pollFails at_entry entry (runMicro_gatePoll_spent rfl) rfl

/-- The events of a gate that succeeds, newest first. -/
theorem gateEvents_reverse_append (m : Nat) (es : List Event) : (gateEvents m).reverse ++ es =
    .sample .scl .high :: (List.replicate m (.sample .scl .low) ++ .rl .scl :: es) := by
  simp [gateEvents]

/-- Settles O29: RAISE_SCL is `RL(SCL)` and a gate with no entry after it. -/
theorem raiseSclRunsTheGate : Obligations.RaiseSclRunsTheGate := by
  intro s m rest ready budget held
  have first := exec_goesOn (i := .raiseScl) (enters_of_ready nofun ready) rfl rfl rfl (Nat.lt_add_one 1)
  obtain ⟨passes, -⟩ := gateBlocksUntilReleased .raiseScl { release .scl s with p := 0, useq := .pos 1 } 1 m
    rest rfl rfl rfl rfl held
  rw [execFor_succ (m + 1) first, gateEvents_reverse_append]
  exact passes budget _ rfl

end Sys2Proof.Machine
end

section

/-!
The samples of the poll loops (43_stretch_gate R132, 44_conditions R140). `Micro.Counted` is the part of
`State.PollCounts` that speaks of the entry that runs; an entry hands it on to the one that comes next.
-/

namespace Sys2Proof.Machine

/-! ## Where the poll loops stand in a list -/

/-- A gate's poll comes after its `RL(SCL)` (43_stretch_gate R130). -/
theorem gateRelease_before_gatePoll {i : Instr} {n : Nat} (entry : (commandOf i).micros[n]? = some .gatePoll) :
    0 < n ∧ (commandOf i).micros[n - 1]? = some .gateRelease := by
  have raise : ∀ n < 2, (commandOf .raiseScl).micros[n]? = some .gatePoll →
      0 < n ∧ (commandOf .raiseScl).micros[n - 1]? = some .gateRelease := by decide
  have stop : ∀ n < 6, (commandOf .stop).micros[n]? = some .gatePoll →
      0 < n ∧ (commandOf .stop).micros[n - 1]? = some .gateRelease := by decide
  have send : ∀ n < 13, sendMicros[n]? = some .gatePoll →
      0 < n ∧ sendMicros[n - 1]? = some .gateRelease := by decide
  have recv : ∀ a, ∀ n < 13, (commandOf (.recv a)).micros[n]? = some .gatePoll →
      0 < n ∧ (commandOf (.recv a)).micros[n - 1]? = some .gateRelease := by
    intro a; cases a <;> decide
  have polls : pollError i = some .clockHeld := ownedBy_of_entry entry
  have short : n < (commandOf i).micros.length := (List.getElem?_eq_some_iff.mp entry).1
  cases i <;> simp only [pollError, reduceCtorEq, Option.some.injEq] at polls
  case raiseScl => exact raise n short entry
  case stop => exact stop n short entry
  case send | senda => exact send n short entry
  case recv a => exact recv a n short entry

/-- The bus-free check is the first entry of its commands, which are no byte commands and clear the poll counter
before it (44_conditions R140). -/
theorem busPoll_entry {i : Instr} {n : Nat} (entry : (commandOf i).micros[n]? = some .busPoll) :
    n = 0 ∧ isByteCommand i = false ∧ ∀ s, (commandOf i).prepare s = clearPoll s := by
  have polls : pollError i = some .busNotFree := ownedBy_of_entry entry
  cases i <;> simp only [pollError, reduceCtorEq, Option.some.injEq] at polls
  all_goals
    refine ⟨?_, rfl, fun s => rfl⟩
    cases n with
    | zero => rfl
    | succ n =>
      rw [← List.getElem?_tail] at entry
      exact absurd (List.mem_of_getElem? entry) (by decide)

/-! ## The samples that an entry finds on the trace -/

/-- What stands on top of the trace where entry `m` runs: inside a poll loop its `p` samples, and elsewhere no
sample of a busy bus. -/
def Micro.Counted (s : State) : Micro → Prop
  | .gatePoll => ∃ es, s.trace = List.replicate s.p.toNat (.sample .scl .low) ++ .rl .scl :: es
  | .busPoll => ∃ ps es, ps.length = s.p.toNat ∧ (.high, .high) ∉ ps ∧ endsBusy es = false ∧
      s.trace = busEvents ps ++ es
  | .init | .dl _ | .rl _ | .wait _ | .readLevel _ | .gateRelease | .sendBit | .recvBit | .lowerBit
  | .sampleAck => endsBusy s.trace = false

/-- Outside the bus-free check the newest event is no sample of a busy bus. -/
theorem Micro.Counted.quiet {s : State} {m : Micro} (h : m.Counted s) (hm : m ≠ .busPoll) :
    endsBusy s.trace = false := by
  cases m
  case busPoll => exact absurd rfl hm
  case gatePoll =>
    obtain ⟨es, trace⟩ := h
    rw [trace]
    cases s.p.toNat <;> rfl
  all_goals exact h

/-- Outside the poll loops that is all there is to know. -/
theorem Micro.counted_of_quiet {s : State} {m : Micro} (gate : m ≠ .gatePoll) (bus : m ≠ .busPoll)
    (quiet : endsBusy s.trace = false) : m.Counted s := by
  cases m
  case gatePoll => exact absurd rfl gate
  case busPoll => exact absurd rfl bus
  all_goals exact quiet

/-- In the state in which an entry runs its samples are counted: at a first step the check starts from none. -/
theorem State.PollCounts.counted {i : Instr} {n : Nat} {m : Micro} {s r : State} (h : s.PollCounts)
    (word : decode s.cur = .ok i) (enters : Enters i s n r) (entry : (commandOf i).micros[n]? = some m) :
    m.Counted r := by
  cases enters with
  | first first passes =>
    have quiet : endsBusy s.trace = false := h.bus_quiet (by simp [first])
    by_cases bus : m = .busPoll
    · subst bus
      obtain ⟨-, -, clears⟩ := busPoll_entry entry
      rw [clears]
      exact ⟨[], s.trace, rfl, by simp, quiet, rfl⟩
    · obtain ⟨b, k, p, prepared⟩ := prepare_frame i s
      rw [prepared]
      refine Micro.counted_of_quiet ?_ bus quiet
      rintro rfl
      exact absurd (gateRelease_before_gatePoll entry).1 (lt_irrefl 0)
  | inside inside =>
    by_cases gate : m = .gatePoll
    · subst gate; exact h.gate n i inside word entry
    by_cases bus : m = .busPoll
    · subst bus; exact h.bus n i inside word entry
    refine Micro.counted_of_quiet gate bus (h.bus_quiet fun n' j at_entry hj => ?_)
    cases inside.symm.trans at_entry
    obtain rfl : i = j := Except.ok.inj (word.symm.trans hj)
    rw [entry]
    simpa using bus

/-! ## One entry -/

/-- A poll of SCL finds the budget used up, or takes one more sample, which lets the gate pass when it is High
(43_stretch_gate R130). -/
theorem gatePoll_cases (s : State) :
    (s.p = s.stretchTimeout ∧ runMicro .gatePoll s = (.fail .clockHeld, s)) ∨
    (s.p ≠ s.stretchTimeout ∧ ∃ v, (runMicro .gatePoll s).1 = (if v = .high then .advance else .stay) ∧
      (runMicro .gatePoll s).2.p = s.p + 1 ∧
      (runMicro .gatePoll s).2.trace = .sample .scl v :: s.trace) := by
  by_cases spent : s.p = s.stretchTimeout
  · exact .inl ⟨spent, runMicro_gatePoll_spent spent⟩
  · simp only [runMicro, gatePoll, if_neg spent]
    exact .inr ⟨spent, _, rfl, sample_p .., sample_trace ..⟩

/-- A poll of both lines finds the budget used up, or takes one more sample, which ends the bus-free check when
both are High (44_conditions R140). -/
theorem busPoll_cases (s : State) :
    (s.p = s.stretchTimeout ∧ runMicro .busPoll s = (.fail .busNotFree, s)) ∨
    (s.p ≠ s.stretchTimeout ∧ ∃ c d,
      (runMicro .busPoll s).1 = (if c = .high ∧ d = .high then .advance else .stay) ∧
      (runMicro .busPoll s).2.p = s.p + 1 ∧
      (runMicro .busPoll s).2.trace = .sample2 c d :: s.trace) := by
  by_cases spent : s.p = s.stretchTimeout
  · exact .inl ⟨spent, by simp only [runMicro, busPoll, if_pos spent]⟩
  · simp only [runMicro, busPoll, if_neg spent]
    exact .inr ⟨spent, _, _, rfl, sample2_p .., sample2_trace ..⟩

/-- After an entry, unless the bus-free check goes on or fails, the newest event is no sample of a busy bus. -/
theorem runMicro_quiet {s : State} {m : Micro} (h : m.Counted s)
    (leaves : m = .busPoll → (runMicro m s).1 = .advance) : endsBusy (runMicro m s).2.trace = false := by
  cases m
  case init => simp [runMicro, initStep, endsBusy]
  case gatePoll =>
    obtain ⟨-, same⟩ | ⟨-, v, -, -, trace⟩ := gatePoll_cases s
    · rw [same]; exact h.quiet nofun
    · rw [trace]; rfl
  case busPoll =>
    have free := leaves rfl
    obtain ⟨-, same⟩ | ⟨-, c, d, flow, -, trace⟩ := busPoll_cases s
    · rw [same] at free; cases free
    · rw [flow, ite_eq_left_iff] at free
      obtain ⟨rfl, rfl⟩ : c = .high ∧ d = .high := by by_contra busy; cases free busy
      rw [trace]; rfl
  case sendBit => simp only [runMicro, sendBit]; split <;> simp [endsBusy]
  all_goals simp [runMicro, lowerBit, readLevel, recvBit, sampleAck, endsBusy]

/-- A poll within the budget does not wrap `p`. -/
theorem toNat_poll_succ {p T : Word} (le : p ≤ T) (budget : p ≠ T) : (p + 1).toNat = p.toNat + 1 := by
  bv_omega

/-- An entry hands the count on to the entry that comes next. -/
theorem Micro.Counted.next {i : Instr} {n n' : Nat} {m m' : Micro} {r : State} (h : m.Counted r)
    (poll_le : r.p ≤ r.stretchTimeout) (entry : (commandOf i).micros[n]? = some m)
    (goes : (runMicro m r).1.entryAfter n = some n') (entry' : (commandOf i).micros[n']? = some m') :
    m'.Counted (runMicro m r).2 := by
  cases flow : (runMicro m r).1 <;> rw [flow] at goes <;> cases goes
  case advance =>
    by_cases gate : m' = .gatePoll
    · subst gate
      cases entry.symm.trans (gateRelease_before_gatePoll entry').2
      exact ⟨r.trace, by simp [runMicro]⟩
    · refine counted_of_quiet gate ?_ (runMicro_quiet h fun _ => flow)
      rintro rfl
      cases (busPoll_entry entry').1
  case stay =>
    cases entry.symm.trans entry'
    obtain rfl | rfl := runMicro_stay flow
    · obtain ⟨-, same⟩ | ⟨budget, v, stays, p, trace⟩ := gatePoll_cases r
      · rw [same] at flow; cases flow
      obtain rfl : v = .low := by cases v; rfl; rw [stays] at flow; cases flow
      obtain ⟨es, before⟩ := h
      exact ⟨es, by rw [p, trace, before, toNat_poll_succ poll_le budget]; rfl⟩
    · obtain ⟨-, same⟩ | ⟨budget, c, d, stays, p, trace⟩ := busPoll_cases r
      · rw [same] at flow; cases flow
      have busy : (Level.high, Level.high) ≠ (c, d) := by rintro ⟨⟩; rw [stays] at flow; cases flow
      obtain ⟨ps, es, length, none, quiet, before⟩ := h
      exact ⟨(c, d) :: ps, es, by rw [p, toNat_poll_succ poll_le budget, ← length]; rfl, by simp [none, busy],
        quiet, by rw [trace, before]; rfl⟩
  case again =>
    obtain ⟨rfl, -⟩ := runMicro_again flow
    refine counted_of_quiet ?_ ?_ (runMicro_quiet h nofun)
    · rintro rfl
      exact absurd (gateRelease_before_gatePoll entry').1 (lt_irrefl 0)
    · rintro rfl
      obtain ⟨-, noByte, -⟩ := busPoll_entry entry'
      exact absurd (noByte.symm.trans (ownedBy_of_entry entry)) nofun

/-! ## The counts after a step -/

/-- Before the first step of a command and at rest only the newest event counts. -/
theorem pollCounts_of_quiet {s : State} (outside : s.useq = .idle ∨ s.useq = .first)
    (quiet : endsBusy s.trace = false) : s.PollCounts where
  gate := by obtain h | h := outside <;> simp [h]
  gate_failed := by obtain h | h := outside <;> simp [h]
  bus_quiet _ := quiet
  bus := by obtain h | h := outside <;> simp [h]
  bus_failed := by obtain h | h := outside <;> simp [h]

/-- Before an entry the count of that entry is the one that matters. -/
theorem Micro.Counted.pollCounts {i : Instr} {n : Nat} {m : Micro} {s : State} (h : m.Counted s)
    (word : decode s.cur = .ok i) (entry : (commandOf i).micros[n]? = some m) :
    ({ s with useq := .pos n } : State).PollCounts where
  gate := by
    rintro _ j ⟨⟩ hj gate
    obtain rfl : i = j := Except.ok.inj (word.symm.trans hj)
    cases entry.symm.trans gate
    exact h
  gate_failed := nofun
  bus_quiet outside := h.quiet fun bus => outside n i rfl word (bus ▸ entry)
  bus := by
    rintro _ j ⟨⟩ hj bus
    obtain rfl : i = j := Except.ok.inj (word.symm.trans hj)
    cases entry.symm.trans bus
    exact h
  bus_failed := nofun

/-- A poll loop that has used up its budget has taken `T` samples. -/
theorem Micro.Counted.pollCounts_failed {m : Micro} {e : ErrCode} {s : State} (h : m.Counted s)
    (loop : m.loopError = some e) (spent : s.p = s.stretchTimeout) :
    ({ release .scl s with useq := .abort e } : State).PollCounts where
  gate := nofun
  gate_failed := by
    rintro ⟨⟩
    cases m <;> cases loop
    obtain ⟨es, trace⟩ := h
    exact ⟨es, by rw [spent] at trace; simp [trace]⟩
  bus_quiet _ := rfl
  bus := nofun
  bus_failed := by
    rintro ⟨⟩
    cases m <;> cases loop
    obtain ⟨ps, es, length, none, quiet, trace⟩ := h
    exact ⟨ps, es, by rw [spent] at length; exact length, none, quiet, by simp [trace]⟩

/-- A controller step of the command in `cur` keeps the counts. -/
theorem State.PollCounts.after_exec {i : Instr} {s t : State} (h : s.PollCounts) (inv : s.Inv)
    (released : s.rst = false) (busy : s.busy = true) (word : decode s.cur = .ok i)
    (step : ExecStep i s t) : t.PollCounts := by
  cases step with
  | turnedAway first => exact pollCounts_of_quiet (.inl rfl) (h.bus_quiet (by simp [first]))
  | goesOn enters entry goes inList =>
    have running := inv.executing released busy word enters
    have entry' := List.getElem?_eq_getElem inList
    exact ((h.counted word enters entry).next running.poll_le entry goes entry').pollCounts
      (running.goesOn entry goes).word entry'
  | @completes n m r enters entry last flow =>
    obtain ⟨o, a, x, finished⟩ := finish_frame i (runMicro m r).2
    rw [finished]
    exact pollCounts_of_quiet (.inl rfl) (runMicro_quiet (h.counted word enters entry) fun _ => flow)
  | initFails enters entry =>
    exact pollCounts_of_quiet (.inl rfl) (runMicro_quiet (h.counted word enters entry) nofun)
  | pollFails enters entry loop spent =>
    exact (h.counted word enters entry).pollCounts_failed loop spent
  | abortEnds => exact pollCounts_of_quiet (.inl rfl) rfl

/-- While no command is executing `useq` is Idle (10_state R43). -/
theorem State.Inv.idle_of_waiting {s : State} (h : s.Inv) (waiting : s.busy = false) : s.useq = .idle := by
  by_contra running
  simp [h.busy_iff.mpr running] at waiting

/-- A host write keeps the counts: a command is accepted, and the configuration written, at rest only
(10_state R42, 20_memory R56). -/
theorem State.PollCounts.after_hostWrite {s : State} (h : s.PollCounts) (inv : s.Inv) (r : WinReg) (v : Word) :
    (hostWrite r v s).PollCounts := by
  have quiet (waiting : s.busy = false) : endsBusy s.trace = false :=
    h.bus_quiet (by simp [inv.idle_of_waiting waiting])
  cases released : s.rst with
  | true => rw [hostWrite_of_asserted r v released]; exact h
  | false =>
    rw [hostWrite_of_released r v released]
    cases r with
    | rxdata | reserved => exact h
    | status => simp only [writeReg, writeStatus]; split <;> exact { h with }
    | cmd =>
      simp only [writeReg, writeCmd]
      split
      case isTrue => exact { h with }
      case isFalse waiting => exact pollCounts_of_quiet (.inr rfl) (quiet (by simpa using waiting))
    | bitDelay | stretchTimeout | slaveAddr =>
      simp only [writeReg]
      split
      case isTrue writable =>
        obtain ⟨-, waiting⟩ : s.opened = false ∧ s.busy = false := by
          simpa [configWritable] using writable
        exact pollCounts_of_quiet (.inl (inv.idle_of_waiting waiting)) (quiet waiting)
      case isFalse => exact h

/-- A RESET event starts afresh (70_reset_and_hazards R200). -/
theorem State.PollCounts.after_assertReset {s : State} (h : s.PollCounts) : (assertReset s).PollCounts := by
  cases released : s.rst with
  | true => rw [assertReset_of_asserted released]; exact h
  | false => rw [assertReset_of_released released]; exact pollCounts_of_quiet (.inl rfl) rfl

/-- A step of the whole machine keeps the counts. -/
theorem MachineStep.keeps_pollCounts {s t : State} (inv : s.Inv) (h : s.PollCounts) (step : MachineStep s t) :
    t.PollCounts := by
  have turned (ts : List Turn) : ({ s with sched := ts } : State).PollCounts := { h with }
  cases step with
  | rests | reads | resumes => exact { h with }
  | @runs ts _ _ _ released busy word step =>
    exact (turned ts).after_exec (inv.with_host ts s.reads) released busy word step
  | rejects _ _ _ _ first => exact pollCounts_of_quiet (.inl rfl) (h.bus_quiet (by simp [first]))
  | rejectedAborts => exact pollCounts_of_quiet (.inl rfl) rfl
  | writes => exact (turned _).after_hostWrite (inv.with_host _ s.reads) _ _
  | resets => exact (turned _).after_assertReset

/-- Settles O48: inside a command an entry hands its count on, and outside
the newest event is no sample of a busy bus. -/
theorem everyStepKeepsPollCounts : Obligations.EveryStepKeepsPollCounts :=
  fun _ _ inv h step => (machineStep_of_step step).keeps_pollCounts inv h

end Sys2Proof.Machine
end

section

/-!
Condition generator (44_conditions R140 to R144): the bus-free check from its first poll, and the step lists
behind it.
-/

namespace Sys2Proof.Machine

/-! ## The end of a run -/

theorem runSegment_useq {ms : List Micro} (n : Nat) (s : State) (nonempty : ms ≠ []) :
    (runSegment ms n s).useq = .pos (n + ms.length) := by
  obtain rfl | ⟨front, m, rfl⟩ := ms.eq_nil_or_concat'
  · exact absurd rfl nonempty
  · simp [runSegment_concat, Nat.add_assoc]

/-- The straight segment before the last entry, and the last entry. -/
theorem execFor_toEnd {i : Instr} (ms : List Micro) {m : Micro} {n : Nat} {s r t : State}
    (enters : Enters i s n r) (entries : (commandOf i).micros.drop n = ms ++ [m]) (nonempty : ms ≠ [])
    (straight : ∀ x ∈ ms, x.straight = true) (last : m.straight = true)
    (result : complete ((commandOf i).finish (runMicro m (runSegment ms n r)).2) = t) :
    execFor i (ms.length + 1) s = .next t := by
  have length : n + ms.length + 1 = (commandOf i).micros.length := by
    have := congrArg List.length entries
    simp at this
    omega
  exact execFor_trans (execFor_straight ms enters entries nonempty straight rfl) rfl
    (execFor_one (exec_last (runSegment_useq n r nonempty) (entry_after entries) length last result))

/-- A poll loop that finds its budget used up at any step, the first one too, ends the command in two steps
(60_exceptions R184). -/
theorem execFor_budgetSpent {i : Instr} {n : Nat} {m : Micro} {e : ErrCode} {s r : State}
    (enters : Enters i s n r) (entry : (commandOf i).micros[n]? = some m)
    (spent : runMicro m r = (.fail e, r)) (aborts : e.aborts = true) :
    execFor i 2 s = .next (endCommand e (release .sda (release .scl r))) := by
  have fails := exec_fails enters entry spent
  rw [raiseError_aborts r aborts] at fails
  rw [execFor_succ 1 fails, execFor_one (exec_abort rfl)]
  rfl

/-! ## The bus-free check (44_conditions R140) -/

/-- A command that begins with the bus-free check enters it with the poll counter cleared. -/
theorem enters_busPoll {i : Instr} {s : State} (checks : (commandOf i).micros[0]? = some .busPoll)
    (ready : s.ready) : Enters i s 0 (clearPoll s) := by
  obtain ⟨-, -, clears⟩ := busPoll_entry checks
  rw [← clears]
  exact enters_of_ready (by rintro rfl; cases checks) ready

theorem checks_of_condition {i : Instr} (condition : i = .busfree ∨ i = .start ∨ i = .restart) :
    (commandOf i).micros[0]? = some .busPoll := by
  obtain rfl | rfl | rfl := condition <;> rfl

theorem runMicro_busPoll_spent {s : State} (spent : s.p = s.stretchTimeout) :
    runMicro .busPoll s = (.fail .busNotFree, s) := by
  simp only [runMicro, busPoll, if_pos spent]

/-- Both lines are released, and the environment presents the pairs `ps` on them, then `cs` on SCL and `ds` on
SDA. -/
structure State.BusShows (s : State) (ps : List (Level × Level)) (cs ds : List Level) : Prop where
  scl : s.drvScl = .released
  sda : s.drvSda = .released
  clock : s.sclIn = ps.map (·.1) ++ cs
  data : s.sdaIn = ps.map (·.2) ++ ds

/-- The bus-free check stays at its poll for as long as the bus is busy and the budget lasts. -/
theorem execFor_busPoll_busy {i : Instr} {n : Nat} {cs ds : List Level} (ps : List (Level × Level))
    {s r : State} (enters : Enters i s n r) (entry : (commandOf i).micros[n]? = some .busPoll)
    (shown : r.BusShows ps cs ds) (busy : (.high, .high) ∉ ps)
    (budget : r.p.toNat + ps.length ≤ r.stretchTimeout.toNat) :
    ∃ s' u, execFor i ps.length s = .next s' ∧ Enters i s' n { r with
      p := r.p + BitVec.ofNat 32 ps.length, sclIn := cs, sdaIn := ds,
      trace := (busEvents ps).reverse ++ r.trace, useq := u } := by
  obtain ⟨scl, sda, clock, data⟩ := shown
  induction ps generalizing s r with
  | nil =>
    obtain rfl : r.sclIn = cs := clock
    obtain rfl : r.sdaIn = ds := data
    exact ⟨s, r.useq, rfl, by simpa [busEvents] using enters⟩
  | cons q ps ih =>
    simp only [List.mem_cons, not_or] at busy
    have budgetLeft : r.p ≠ r.stretchTimeout := fun spent => by
      rw [spent, List.length_cons] at budget; omega
    have polled := runMicro_busPoll_released budgetLeft scl sda clock data
    rw [if_neg fun free => busy.1 (Prod.ext free.1 free.2).symm] at polled
    have stays := exec_goesOn (n' := n) enters entry polled rfl (List.getElem?_eq_some_iff.mp entry).1
    have counted : (r.p + 1).toNat = r.p.toNat + 1 := by bv_omega
    obtain ⟨s', u, run, enters'⟩ := ih (s := { r with
        p := r.p + 1, sclIn := ps.map (·.1) ++ cs, sdaIn := ps.map (·.2) ++ ds,
        trace := .sample2 q.1 q.2 :: r.trace, useq := .pos n })
      (.inside rfl) busy.2 (by simp only [counted]; rw [List.length_cons] at budget; omega) scl sda rfl rfl
    refine ⟨s', u, (execFor_succ _ stays).trans run, ?_⟩
    simpa [busEvents, BitVec.ofNat_add, BitVec.add_assoc, BitVec.add_comm 1#32] using enters'

/-- The busy samples of a check that begins with the command. -/
theorem busFreeCheck_busy {i : Instr} {s : State} {ps : List (Level × Level)} {cs ds : List Level}
    (checks : (commandOf i).micros[0]? = some .busPoll) (ready : s.ready) (shown : s.BusShows ps cs ds)
    (busy : (.high, .high) ∉ ps) (budget : ps.length ≤ s.stretchTimeout.toNat) :
    ∃ s' u, execFor i ps.length s = .next s' ∧ Enters i s' 0 { s with
      p := BitVec.ofNat 32 ps.length, sclIn := cs, sdaIn := ds,
      trace := (busEvents ps).reverse ++ s.trace, useq := u } := by
  simpa [clearPoll] using execFor_busPoll_busy ps (enters_busPoll checks ready) checks { shown with } busy
    (by simpa [clearPoll] using budget)

/-- A bus that becomes free within the budget lets the check pass, at the sample after the busy ones. -/
theorem busFreeCheck_passes {i : Instr} {s : State} {ps : List (Level × Level)} {cs ds : List Level}
    (checks : (commandOf i).micros[0]? = some .busPoll) (ready : s.ready)
    (shown : s.BusShows ps (.high :: cs) (.high :: ds)) (busy : (.high, .high) ∉ ps)
    (budget : ps.length < s.stretchTimeout.toNat) :
    ∃ s' r u, execFor i ps.length s = .next s' ∧ Enters i s' 0 r ∧
      runMicro .busPoll r = (.advance, { s with
        p := BitVec.ofNat 32 (ps.length + 1), sclIn := cs, sdaIn := ds,
        trace := .sample2 .high .high :: ((busEvents ps).reverse ++ s.trace), useq := u }) := by
  obtain ⟨s', u, run, enters⟩ := busFreeCheck_busy checks ready shown busy budget.le
  have budgetLeft : BitVec.ofNat 32 ps.length ≠ s.stretchTimeout := fun spent => by
    rw [← spent] at budget
    simp at budget
    omega
  refine ⟨s', _, u, run, enters, Eq.trans (runMicro_busPoll_released budgetLeft shown.scl shown.sda rfl rfl) ?_⟩
  simp [BitVec.ofNat_add]

/-- The check passes, and the command goes on with the entry after it. -/
theorem execFor_busFree {i : Instr} {s : State} {ps : List (Level × Level)} {cs ds : List Level}
    (checks : (commandOf i).micros[0]? = some .busPoll) (more : 1 < (commandOf i).micros.length)
    (ready : s.ready) (shown : s.BusShows ps (.high :: cs) (.high :: ds)) (busy : (.high, .high) ∉ ps)
    (budget : ps.length < s.stretchTimeout.toNat) :
    execFor i (ps.length + 1) s = .next { s with
      p := BitVec.ofNat 32 (ps.length + 1), sclIn := cs, sdaIn := ds,
      trace := .sample2 .high .high :: ((busEvents ps).reverse ++ s.trace), useq := .pos 1 } := by
  obtain ⟨s', r, u, run, enters, free⟩ := busFreeCheck_passes checks ready shown busy budget
  exact execFor_trans run rfl (execFor_one (exec_goesOn enters checks free rfl more))

/-! ## The step lists -/

/-- Settles O30: the check that passes is BUSFREE's only entry. -/
theorem busfreeRunsToFree : Obligations.BusfreeRunsToFree := by
  intro s ps cs ds ready scl sda budget busy clock data
  obtain ⟨s', r, u, run, enters, free⟩ :=
    busFreeCheck_passes (i := .busfree) rfl ready ⟨scl, sda, clock, data⟩ busy budget
  exact execFor_trans run rfl (execFor_one (exec_completes enters rfl free rfl))

/-- Settles O31: the check passes, and the entries after it are straight. -/
theorem startRunsItsStepList : Obligations.StartRunsItsStepList := by
  intro s ps cs ds ready scl sda budget busy clock data
  have free := execFor_busFree (i := .start) rfl (by decide) ready ⟨scl, sda, clock, data⟩ busy budget
  exact execFor_trans free rfl
    (execFor_toEnd [.dl .sda, .wait .half] (.inside rfl) rfl (by simp) (by decide) rfl rfl)

/-- Settles O32: the check passes, and the entries after it are straight. -/
theorem restartRunsItsStepList : Obligations.RestartRunsItsStepList := by
  intro s ps cs ds ready scl sda budget busy clock data
  have free := execFor_busFree (i := .restart) rfl (by decide) ready ⟨scl, sda, clock, data⟩ busy budget
  exact execFor_trans free rfl (execFor_toEnd [.dl .sda, .wait .full, .dl .scl, .rl .sda] (.inside rfl) rfl
    (by simp) (by decide) rfl rfl)

/-- Settles O33: STOP's list is a straight segment, a gate, and a straight segment. -/
theorem stopRunsItsStepList : Obligations.StopRunsItsStepList := by
  intro s m rest ready budget held
  have gate := execFor_gate (i := .stop) [.dl .sda, .wait .step] (enters_of_ready nofun ready) rfl (by decide)
    rfl held budget
  exact execFor_trans gate (by simp; omega)
    (execFor_toEnd [.wait .step] (.inside rfl) rfl (by simp) (by decide) rfl rfl)

/-- Settles O34: the `T` busy samples use up the budget, and the next poll raises BusNotFree. -/
theorem busyBusEndsInBusNotFree : Obligations.BusyBusEndsInBusNotFree := by
  intro i s ps cs ds condition ready scl sda length busy clock data
  have checks := checks_of_condition condition
  obtain ⟨s', u, run, enters⟩ :=
    busFreeCheck_busy checks ready ⟨scl, sda, clock, data⟩ busy length.le
  have spent : BitVec.ofNat 32 ps.length = s.stretchTimeout := by simp [length]
  have ends := execFor_trans run rfl
    (execFor_budgetSpent enters checks (runMicro_busPoll_spent spent) rfl)
  rw [ends, ← spent]
  simp only [endCommand, release, record, State.setDrv, scl, sda]

/-! ## The block's own drive (44_conditions R141, R146) -/

/-- A line that reads High is released (00_scope R16). -/
theorem released_of_high {l : Line} {s : State} (high : (lineLevel l s).1 = .high) : s.drv l = .released := by
  cases drive : s.drv l with
  | drivingLow => rw [lineLevel_driven drive] at high; cases high
  | released => rfl

/-- The check passes only while the block drives neither line. -/
theorem released_of_busFree {s : State} (free : (runMicro .busPoll s).1 = .advance) :
    s.drvScl = .released ∧ s.drvSda = .released := by
  simp only [runMicro, busPoll] at free
  split at free
  · cases free
  · split at free
    case isTrue high =>
      obtain ⟨c, d⟩ := high
      have sda := released_of_high d
      exact ⟨released_of_high c, by simpa [State.drv] using sda⟩
    case isFalse => cases free

/-- A poll within the budget while the block drives a line: one more sample that does not find the bus free. -/
theorem runMicro_busPoll_driven {s : State} (budget : s.p ≠ s.stretchTimeout)
    (own : s.drvScl = .drivingLow ∨ s.drvSda = .drivingLow) :
    (runMicro .busPoll s).1 = .stay ∧ (runMicro .busPoll s).2.p = s.p + 1 ∧
      ∃ q, q ≠ (.high, .high) ∧ (runMicro .busPoll s).2.trace = busEvents [q] ++ s.trace := by
  obtain ⟨spent, -⟩ | ⟨-, c, d, flow, p, trace⟩ := busPoll_cases s
  · exact absurd spent budget
  · have busy : ¬ (c = .high ∧ d = .high) := fun free => by
      rw [if_pos free] at flow
      obtain ⟨scl, sda⟩ := released_of_busFree flow
      simp [scl, sda] at own
    exact ⟨by rw [flow, if_neg busy], p, (c, d), by simpa using busy, trace⟩

/-- While the block drives a line the check takes samples, none with both lines High, for as long as the budget
lasts. -/
theorem execFor_busPoll_driven {i : Instr} {n : Nat} (entry : (commandOf i).micros[n]? = some .busPoll)
    (k : Nat) {s r : State} (enters : Enters i s n r)
    (own : r.drvScl = .drivingLow ∨ r.drvSda = .drivingLow)
    (budget : r.p.toNat + k = r.stretchTimeout.toNat) :
    ∃ s' r' ps, execFor i k s = .next s' ∧ Enters i s' n r' ∧ r'.p = r'.stretchTimeout ∧
      ps.length = k ∧ (.high, .high) ∉ ps ∧ r'.trace = busEvents ps ++ r.trace := by
  induction k generalizing s r with
  | zero => exact ⟨s, r, [], rfl, enters, BitVec.eq_of_toNat_eq budget, rfl, by simp, rfl⟩
  | succ k ih =>
    have budgetLeft : r.p ≠ r.stretchTimeout := fun spent => by rw [spent] at budget; omega
    obtain ⟨stay, p, q, busy, trace⟩ := runMicro_busPoll_driven budgetLeft own
    obtain ⟨scl, sda⟩ := runMicro_busPoll r
    have counted : (r.p + 1).toNat = r.p.toNat + 1 := by bv_omega
    have stays := exec_goesOn (n' := n) enters entry (Prod.ext stay rfl) rfl
      (List.getElem?_eq_some_iff.mp entry).1
    obtain ⟨s', r', ps, run, enters', spent, length, none, trace'⟩ :=
      ih (s := { (runMicro .busPoll r).2 with useq := .pos n }) (.inside rfl)
        (by simpa only [scl, sda] using own) (by simp only [p, counted, runMicro_stretchTimeout]; omega)
    refine ⟨s', r', ps ++ [q], (execFor_succ k stays).trans run, enters', spent, by simp [length],
      by simp [none, busy.symm], ?_⟩
    simp [trace', trace, busEvents]

/-- Settles O35: the samples that the block's own drive makes busy use up the budget. -/
theorem ownDriveMakesTheBusBusy : Obligations.OwnDriveMakesTheBusBusy := by
  intro i s condition ready own
  have checks := checks_of_condition condition
  obtain ⟨s', r, ps, run, enters, spent, length, busy, trace⟩ :=
    execFor_busPoll_driven checks s.stretchTimeout.toNat (enters_busPoll checks ready) own
      (by simp [clearPoll])
  refine ⟨_, ps, execFor_trans run rfl (execFor_budgetSpent enters checks (runMicro_busPoll_spent spent) rfl),
    rfl, rfl, rfl, rfl, rfl, length, busy, ?_⟩
  simp [trace, clearPoll]

end Sys2Proof.Machine
end

section

/-!
The drive states that a command leaves (44_conditions R147). `Drives` reads them off its list, and every run keeps
`Underway`, which says how much of the list has run.
-/

namespace Sys2Proof.Machine

/-! ## What an entry does to the drive states -/

/-- What an entry that the command goes on from does to the drive states of the lines, `d` before and `e` after
it. The bus-free check passes only while both lines are released (44_conditions R140). -/
def Micro.Drives (d e : Line → Drive) : Micro → Prop
  | .dl l => e = Function.update d l .drivingLow
  | .rl l => e = Function.update d l .released
  | .gateRelease => e = Function.update d .scl .released
  | .lowerBit => e = Function.update d .scl .drivingLow
  | .sendBit => ∃ v, e = Function.update d .sda v
  | .busPoll => e = d ∧ ∀ l, d l = .released
  | .init | .wait _ | .readLevel _ | .gatePoll | .recvBit | .sampleAck => e = d

theorem State.setDrv_drv (s : State) (l : Line) (v : Drive) :
    (s.setDrv l v).drv = Function.update s.drv l v := by
  funext m
  cases l <;> cases m <;> rfl

theorem State.drv_eq_iff (s t : State) : t.drv = s.drv ↔ t.drvScl = s.drvScl ∧ t.drvSda = s.drvSda := by
  refine ⟨fun same => ⟨congrFun same .scl, congrFun same .sda⟩, fun ⟨scl, sda⟩ => ?_⟩
  funext l
  cases l
  case scl => exact scl
  case sda => exact sda

/-- The poll loops move no line (43_stretch_gate R130, 44_conditions R140). -/
theorem runMicro_poll_drv {m : Micro} (s : State) (poll : m = .gatePoll ∨ m = .busPoll) :
    (runMicro m s).2.drv = s.drv := by
  obtain rfl | rfl := poll
  · simp only [runMicro, gatePoll]
    split <;> exact (State.drv_eq_iff ..).mpr (by simp)
  · exact (State.drv_eq_iff ..).mpr (runMicro_busPoll s)

/-- `Micro.Drives` holds of every entry that the command goes on from. -/
theorem runMicro_drives {m : Micro} {s : State} (goes : (runMicro m s).1 = .advance) :
    m.Drives s.drv (runMicro m s).2.drv := by
  cases m
  case dl | rl | gateRelease | lowerBit => exact State.setDrv_drv ..
  case sendBit =>
    simp only [runMicro, sendBit]
    split <;> exact ⟨_, State.setDrv_drv ..⟩
  case busPoll =>
    obtain ⟨scl, sda⟩ := released_of_busFree goes
    refine ⟨runMicro_poll_drv s (.inr rfl), fun l => ?_⟩
    cases l
    case scl => exact scl
    case sda => exact sda
  case gatePoll => exact runMicro_poll_drv s (.inl rfl)
  all_goals exact (State.drv_eq_iff ..).mpr (by simp [runMicro, initStep, readLevel, recvBit, sampleAck])

/-- What a list of entries, run one after the other, does to the drive states. -/
def Drives : List Micro → (Line → Drive) → (Line → Drive) → Prop
  | [], d, e => e = d
  | m :: ms, d, e => ∃ c, m.Drives d c ∧ Drives ms c e

theorem Drives.concat {ms : List Micro} {m : Micro} {c d e : Line → Drive} (before : Drives ms c d)
    (entry : m.Drives d e) : Drives (ms ++ [m]) c e := by
  induction ms generalizing c with
  | nil => obtain rfl : d = c := before; exact ⟨e, entry, rfl⟩
  | cons m' ms ih =>
    obtain ⟨b, first, rest⟩ := before
    exact ⟨b, first, ih rest⟩

/-! ## A run of a command -/

/-- A property that every step of a command keeps holds wherever a run of it ends. -/
theorem execFor_keeps {i : Instr} {P : State → Prop} (keeps : ∀ s t, P s → exec i s = .next t → P t)
    {n : Nat} {s t : State} (start : P s) (run : execFor i n s = .next t) : P t := by
  induction n generalizing s with
  | zero => cases run; exact start
  | succ n ih =>
    simp only [execFor] at run
    split at run
    case h_1 next => exact ih (keeps _ _ start next) run
    all_goals cases run

/-- How far a run of command `i` has come that began with the drive states `d`: the entries before its position
have run, and all of them at a successful end. -/
def Underway (i : Instr) (d : Line → Drive) (s : State) : Prop :=
  match s.useq with
  | .first => (commandOf i).check s = none ∧ s.drv = d
  | .pos n => Drives ((commandOf i).micros.take n) d s.drv
  | .abort e => e ≠ .ok
  | .idle => s.err = .ok → Drives (commandOf i).micros d s.drv

theorem Underway.at_entry {i : Instr} {n : Nat} {d : Line → Drive} {s r : State} (h : Underway i d s)
    (enters : Enters i s n r) : Drives ((commandOf i).micros.take n) d r.drv := by
  cases enters with
  | first at_first =>
    simp only [Underway, at_first] at h
    obtain ⟨_, _, _, prepared⟩ := prepare_frame i s
    rw [prepared]
    exact h.2
  | inside at_entry => simpa only [Underway, at_entry] using h

theorem Underway.after_entry {i : Instr} {n : Nat} {m : Micro} {d : Line → Drive} {s r : State}
    (h : Underway i d s) (enters : Enters i s n r) (entry : (commandOf i).micros[n]? = some m)
    (goes : (runMicro m r).1 = .advance) :
    Drives ((commandOf i).micros.take (n + 1)) d (runMicro m r).2.drv := by
  rw [List.take_add_one, entry]
  exact (h.at_entry enters).concat (runMicro_drives goes)

/-- A step of a command whose list has no bit loop takes it one entry further, or ends it. -/
theorem Underway.after_exec {i : Instr} {d : Line → Drive} {s t : State} (noLoop : isByteCommand i = false)
    (h : Underway i d s) (step : ExecStep i s t) : Underway i d t := by
  cases step with
  | turnedAway first refused =>
    simp only [Underway, first] at h
    rw [refused] at h
    cases h.1
  | @goesOn n n' m r enters entry goes =>
    show Drives _ d (runMicro m r).2.drv
    cases flow : (runMicro m r).1 with
    | advance =>
      obtain rfl : n + 1 = n' := by simpa [flow, Flow.entryAfter] using goes
      exact h.after_entry enters entry flow
    | stay =>
      obtain rfl : n = n' := by simpa [flow, Flow.entryAfter] using goes
      rw [runMicro_poll_drv r (runMicro_stay flow)]
      exact h.at_entry enters
    | again =>
      obtain ⟨rfl, -⟩ := runMicro_again flow
      cases noLoop.symm.trans (ownedBy_of_entry entry)
    | fail => rw [flow] at goes; cases goes
  | @completes n m r enters entry last flow =>
    intro _
    obtain ⟨_, _, _, finished⟩ := finish_frame i (runMicro m r).2
    rw [finished, ← List.take_length (l := (commandOf i).micros), ← last]
    exact h.after_entry enters entry flow
  | initFails => exact nofun
  | pollFails _ _ loop => rintro rfl; cases aborts_of_loopError loop
  | abortEnds abort =>
    simp only [Underway, abort] at h
    exact fun ok => absurd ok h

/-- A run from the first step to a successful end has done to the lines what its list says. -/
theorem drives_of_success {i : Instr} {s t : State} {n : Nat} (ready : s.ready)
    (run : execFor i n s = .next t) (idle : t.useq = .idle) (ok : t.err = .ok)
    (noLoop : isByteCommand i = false) (hi : i ≠ .openSession) : Drives (commandOf i).micros s.drv t.drv := by
  obtain ⟨first, opened⟩ := ready
  have start : Underway i s.drv s := by
    simp only [Underway, first]
    exact ⟨by simp [check_of_ne_openSession hi, needsOpen, opened], trivial⟩
  have ended := execFor_keeps (fun _ _ h step => h.after_exec noLoop (exec_cases step)) start run
  simp only [Underway, idle] at ended
  exact ended ok

/-- Settles O36: the end states are read off the four lists. -/
theorem conditionEndStates : Obligations.ConditionEndStates := by
  intro i s t n ready run idle ok
  refine ⟨?busfree, ?start, ?restart, ?stop⟩
  all_goals
    rintro rfl
    have drives := drives_of_success ready run idle ok rfl nofun
  case busfree =>
    obtain ⟨_, ⟨rfl, free⟩, same⟩ := drives
    obtain ⟨scl, sda⟩ := (State.drv_eq_iff ..).mp same
    exact ⟨scl, sda, scl.trans (free .scl), sda.trans (free .sda)⟩
  case start =>
    obtain ⟨_, -, _, rfl, _, rfl, _, rfl, ends⟩ := drives
    exact ⟨congrFun ends .scl, congrFun ends .sda⟩
  case restart =>
    obtain ⟨_, -, _, rfl, _, rfl, _, rfl, _, rfl, _, rfl, ends⟩ := drives
    exact ⟨congrFun ends .scl, congrFun ends .sda⟩
  case stop =>
    obtain ⟨_, rfl, _, rfl, _, rfl, _, rfl, _, rfl, _, rfl, ends⟩ := drives
    exact ⟨congrFun ends .scl, congrFun ends .sda⟩

end Sys2Proof.Machine
end


section

/-!
SDA in the byte transfer engine (45_byte_transfer R162, R167). `SdaAt` is the part of `State.SdaHeld` that speaks
of the entry that runs; an entry hands it on to the one that comes next.
-/

namespace Sys2Proof.Machine

/-! ## The entries that set SDA -/

/-- The entries that a command of the byte transfer engine sets SDA with. -/
def Micro.setsSda : Micro → Bool
  | .dl .sda | .rl .sda | .sendBit => true
  | .dl .scl | .rl .scl | .init | .wait _ | .readLevel _ | .gateRelease | .gatePoll | .busPoll | .recvBit
  | .lowerBit | .sampleAck => false

/-- The other entries leave SDA as it is. -/
theorem runMicro_drvSda {m : Micro} (s : State) (keeps : m.setsSda = false) :
    (runMicro m s).2.drvSda = s.drvSda := by
  cases m
  case sendBit => cases keeps
  case dl l | rl l =>
    cases l
    case sda => cases keeps
    case scl => rfl
  case gatePoll => exact (runMicro_gate s (.inr rfl)).1
  case busPoll => exact (runMicro_busPoll s).2
  case gateRelease | lowerBit => rfl
  all_goals simp [runMicro, initStep, readLevel, recvBit, sampleAck]

/-- The byte a sending command puts on the wire depends on SLAVE_ADDR alone (45_byte_transfer R163). -/
theorem sentByte_congr {s t : State} (i : Instr) (same : t.slaveAddr = s.slaveAddr) :
    sentByte t i = sentByte s i := by
  cases i
  case senda rw => simp only [sentByte, same]
  all_goals rfl

theorem writesAck_of_sentByte {i : Instr} {s : State} {b : Byte} (sends : sentByte s i = some b) :
    writesAck i = true := by
  cases i <;> simp only [sentByte, reduceCtorEq] at sends <;> rfl

/-! ## SDA where an entry runs -/

/-- How RECV drives SDA in its ninth clock (45_byte_transfer R167). -/
def ackDrive : AckSel → Drive
  | .ack => .drivingLow
  | .nack => .released

theorem runMicro_ackChoice_drvSda (a : AckSel) (s : State) : (runMicro (ackChoice a) s).2.drvSda = ackDrive a := by
  cases a <;> rfl

/-- What holds of SDA in the state `s` in which entry `n` of command `i` runs. -/
structure SdaAt (i : Instr) (n : Nat) (s : State) : Prop where
  /-- A sending command shows bit `7 - k` of its byte from the gate to the `DL(SCL)` of a data bit, and releases
  SDA in the ninth clock. -/
  sends : ∀ b, sentByte s i = some b → s.sr = b ∧
    (2 ≤ n → n ≤ 5 → (s.drvSda = .released ↔ txBit b s.k = true)) ∧ (7 ≤ n → s.drvSda = .released)
  /-- RECV shows its choice in the ninth clock. -/
  chooses : ∀ a, i = .recv a → 7 ≤ n → s.drvSda = ackDrive a

/-- Before the first micro-operation a sending command loads its byte, and no more is claimed. -/
theorem State.SdaHeld.sdaAt {i : Instr} {n : Nat} {s r : State} (h : s.SdaHeld)
    (word : decode s.cur = .ok i) (enters : Enters i s n r) : SdaAt i n r := by
  cases enters with
  | first =>
    refine ⟨fun b sends => ⟨?_, by simp, by simp⟩, by simp⟩
    cases i <;> cases sends <;> rfl
  | inside at_entry =>
    refine ⟨fun b sends => ?_, fun a recv => h.recv_slot n a at_entry (recv ▸ word)⟩
    obtain ⟨loaded, data⟩ := h.data n i b at_entry word sends
    exact ⟨loaded, data, h.ack_slot n i b at_entry word sends⟩

/-- Before an entry what holds at that entry is what matters. -/
theorem SdaAt.sdaHeld {i : Instr} {n : Nat} {s : State} (h : SdaAt i n s) (word : decode s.cur = .ok i) :
    ({ s with useq := .pos n } : State).SdaHeld := by
  have same {j : Instr} (hj : decode s.cur = .ok j) : i = j := Except.ok.inj (word.symm.trans hj)
  constructor
  case data =>
    rintro _ j b ⟨⟩ hj sends
    obtain rfl := same hj
    obtain ⟨loaded, data, -⟩ := h.sends b sends
    exact ⟨loaded, data⟩
  case ack_slot =>
    rintro _ j b ⟨⟩ hj sends
    obtain rfl := same hj
    exact (h.sends b sends).2.2
  case recv_slot =>
    rintro _ a ⟨⟩ hj
    exact h.chooses a (same hj)

/-- Outside a list nothing is claimed of SDA. -/
theorem sdaHeld_of_outside {s : State} (outside : ∀ n, s.useq ≠ .pos n) : s.SdaHeld where
  data n _ _ inside := absurd inside (outside n)
  ack_slot n _ _ inside := absurd inside (outside n)
  recv_slot n _ inside := absurd inside (outside n)

/-! ## One entry -/

/-- SEND_BYTE sets SDA at entries 1 and 6 only (45_byte_transfer R161). -/
theorem keepsSda_of_send {n : Nat} {m : Micro} (entry : sendMicros[n]? = some m) (bit : n ≠ 1) (ninth : n ≠ 6) :
    m.setsSda = false := by
  have entries : ∀ n < 13, n ≠ 1 → n ≠ 6 → sendMicros[n]?.map Micro.setsSda = some false := by decide
  have keeps := entries n (List.getElem?_eq_some_iff.mp entry).1 bit ninth
  rw [entry] at keeps
  exact Option.some.inj keeps

/-- RECV sets SDA at entry 6 and at its end only (45_byte_transfer R165). -/
theorem keepsSda_of_recv {a : AckSel} {n : Nat} {m : Micro} (entry : (commandOf (.recv a)).micros[n]? = some m)
    (ninth : n ≠ 6) (last : n ≠ 12) : m.setsSda = false := by
  have entries : ∀ n < 13, n ≠ 6 → n ≠ 12 →
      (commandOf (.recv a)).micros[n]?.map Micro.setsSda = some false := by cases a <;> decide
  have keeps := entries n (List.getElem?_eq_some_iff.mp entry).1 ninth last
  rw [entry] at keeps
  exact Option.some.inj keeps

/-- The command goes on at the following entry, at the same one, or, at the end of a data bit, at the first. -/
theorem entryAfter_cases {m : Micro} {s : State} {n n' : Nat} (goes : (runMicro m s).1.entryAfter n = some n') :
    n' = n + 1 ∨ (m ≠ .lowerBit ∧ n' = n) ∨ (m = .lowerBit ∧ n' = 0) := by
  cases flow : (runMicro m s).1 <;> rw [flow] at goes <;> cases goes
  case advance => exact .inl rfl
  case stay => exact .inr (.inl ⟨by rintro rfl; cases runMicro_stay flow <;> contradiction, rfl⟩)
  case again => exact .inr (.inr ⟨(runMicro_again flow).1, rfl⟩)

theorem entryAfter_of_straight {m : Micro} {s : State} {n n' : Nat} (straight : m.straight = true)
    (goes : (runMicro m s).1.entryAfter n = some n') : n' = n + 1 := by
  rw [runMicro_straight s straight] at goes
  cases goes
  rfl

/-- SEND_BYTE hands on what it shows on SDA: entry 1 sets SDA to the bit, entry 6 releases it, and the entries
between keep it. -/
theorem SdaAt.sends_next {i : Instr} {n n' : Nat} {m : Micro} {r : State} {b : Byte} (h : SdaAt i n r)
    (entry : (commandOf i).micros[n]? = some m) (goes : (runMicro m r).1.entryAfter n = some n')
    (sends : sentByte (runMicro m r).2 i = some b) :
    (runMicro m r).2.sr = b ∧
      (2 ≤ n' → n' ≤ 5 → ((runMicro m r).2.drvSda = .released ↔ txBit b (runMicro m r).2.k = true)) ∧
      (7 ≤ n' → (runMicro m r).2.drvSda = .released) := by
  have writes := writesAck_of_sentByte sends
  rw [sentByte_congr i (runMicro_slaveAddr m r)] at sends
  obtain ⟨loaded, data, ninth⟩ := h.sends b sends
  have notRecv : m ≠ .recvBit := by
    rintro rfl
    obtain ⟨a, rfl⟩ := ownedBy_of_entry entry
    cases writes
  have listed : sendMicros[n]? = some m := micros_of_writesAck writes ▸ entry
  refine ⟨(runMicro_sr r notRecv).trans loaded, ?_⟩
  by_cases bit : n = 1
  · subst bit
    obtain rfl : Micro.sendBit = m := Option.some.inj listed
    obtain rfl := entryAfter_of_straight rfl goes
    refine ⟨fun _ _ => ?_, by omega⟩
    rw [runMicro_sendBit, loaded]
    simp
  by_cases ack : n = 6
  · subst ack
    obtain rfl : Micro.rl .sda = m := Option.some.inj listed
    obtain rfl := entryAfter_of_straight rfl goes
    exact ⟨by omega, fun _ => rfl⟩
  have place := entryAfter_cases goes
  rw [runMicro_drvSda r (keepsSda_of_send listed bit ack)]
  refine ⟨fun lo hi => ?_, fun slot => ninth (by omega)⟩
  have inBit : m ≠ .lowerBit := by
    rintro rfl
    obtain rfl := lowerBit_entry entry
    obtain rfl | ⟨other, -⟩ | ⟨-, rfl⟩ := place
    · omega
    · exact other rfl
    · omega
  rw [runMicro_k r inBit]
  exact data (by omega) (by omega)

/-- RECV hands its choice on: entry 6 makes it, and the entries after that keep it. -/
theorem SdaAt.chooses_next {a : AckSel} {n n' : Nat} {m : Micro} {r : State} (h : SdaAt (.recv a) n r)
    (entry : (commandOf (.recv a)).micros[n]? = some m) (goes : (runMicro m r).1.entryAfter n = some n')
    (inList : n' < 13) (slot : 7 ≤ n') : (runMicro m r).2.drvSda = ackDrive a := by
  by_cases ack : n = 6
  · subst ack
    obtain rfl : ackChoice a = m := Option.some.inj entry
    exact runMicro_ackChoice_drvSda a r
  have inside : n ≠ 12 := by
    rintro rfl
    obtain rfl : Micro.rl .sda = m := Option.some.inj entry
    have := entryAfter_of_straight rfl goes
    omega
  have place := entryAfter_cases goes
  rw [runMicro_drvSda r (keepsSda_of_recv entry ack inside)]
  exact h.chooses a rfl (by omega)

/-- An entry hands on what holds of SDA to the entry that comes next. -/
theorem SdaAt.next {i : Instr} {n n' : Nat} {m : Micro} {r : State} (h : SdaAt i n r)
    (entry : (commandOf i).micros[n]? = some m) (goes : (runMicro m r).1.entryAfter n = some n')
    (inList : n' < (commandOf i).micros.length) : SdaAt i n' (runMicro m r).2 where
  sends _ := h.sends_next entry goes
  chooses := by
    rintro a rfl slot
    exact h.chooses_next entry goes inList slot

/-! ## SDA after a step -/

/-- A controller step of the command in `cur` keeps `State.SdaHeld`. -/
theorem State.SdaHeld.after_exec {i : Instr} {s t : State} (h : s.SdaHeld) (word : decode s.cur = .ok i)
    (step : ExecStep i s t) : t.SdaHeld := by
  cases step with
  | @goesOn n n' m r enters entry goes inList =>
    obtain ⟨_, _, _, rfl⟩ := enters.frame
    exact ((h.sdaAt word enters).next entry goes inList).sdaHeld (by simpa using word)
  | turnedAway | completes | initFails | pollFails | abortEnds => exact sdaHeld_of_outside nofun

/-- A host write leaves what a running command works with alone (20_memory R57, 10_state R42). -/
theorem State.SdaHeld.after_hostWrite {s : State} (h : s.SdaHeld) (inv : s.Inv) (r : WinReg) (v : Word) :
    (hostWrite r v s).SdaHeld := by
  by_cases inside : ∃ n, (hostWrite r v s).useq = .pos n
  case neg => exact sdaHeld_of_outside (not_exists.mp inside)
  obtain ⟨n, inside⟩ := inside
  have at_entry : s.useq = .pos n := by
    obtain same | accepted := hostWrite_useq r v s
    · exact same.symm.trans inside
    · cases accepted.symm.trans inside
  have busy : s.busy = true := inv.busy_iff.mpr (by simp [at_entry])
  obtain ⟨cur, config⟩ := captured_hostWrite r v s
  obtain ⟨-, -, addr⟩ := config (.inl busy)
  obtain ⟨_, _, _, _, _, _, _, _, written⟩ := hostWrite_frame r v s
  have word := cur busy
  rw [written] at word addr inside ⊢
  obtain rfl := word
  obtain rfl := addr
  obtain rfl := inside.trans at_entry.symm
  exact { h with }

theorem State.SdaHeld.after_assertReset {s : State} (h : s.SdaHeld) : (assertReset s).SdaHeld := by
  cases released : s.rst with
  | true => rw [assertReset_of_asserted released]; exact h
  | false => rw [assertReset_of_released released]; exact sdaHeld_of_outside nofun

/-- A step of the whole machine keeps `State.SdaHeld`. -/
theorem MachineStep.keeps_sdaHeld {s t : State} (inv : s.Inv) (h : s.SdaHeld) (step : MachineStep s t) :
    t.SdaHeld := by
  have turned (ts : List Turn) : ({ s with sched := ts } : State).SdaHeld := { h with }
  cases step with
  | rests | reads | resumes => exact { h with }
  | @runs ts _ _ _ _ _ word step => exact (turned ts).after_exec word step
  | rejects | rejectedAborts => exact sdaHeld_of_outside nofun
  | writes => exact (turned _).after_hostWrite (inv.with_host _ s.reads) _ _
  | resets => exact (turned _).after_assertReset

/-- Settles O47: inside a list an entry hands on what holds of SDA, and a turn of another agent
leaves the command alone or ends it. -/
theorem everyStepKeepsSdaHeld : Obligations.EveryStepKeepsSdaHeld :=
  fun _ _ inv h step => (machineStep_of_step step).keeps_sdaHeld inv h

end Sys2Proof.Machine
end

section

/-!
Byte commands in any environment (45_byte_transfer R160 to R169): the address byte, RECV on a driven SDA, and the
bit loop with whatever SDA reads, which leads to the ninth clock or to a gate that runs out of budget.
-/

namespace Sys2Proof.Machine

/-! ## The address byte (45_byte_transfer R163, R164) -/

theorem toNat_rwBit_lt (rw : RwSel) : (rwBit rw).toNat < 2 := by
  cases rw <;> decide

theorem toNat_addressByte (a : BitVec 7) (rw : RwSel) :
    (addressByte a rw).toNat = 2 * a.toNat + (rwBit rw).toNat := by
  have small := toNat_rwBit_lt rw
  have bound := a.isLt
  rw [addressByte_eq, BitVec.toNat_ofNat]
  omega

theorem rwBit_injective {x y : RwSel} (same : (rwBit x).toNat = (rwBit y).toNat) : x = y := by
  cases x <;> cases y
  case write.write | read.read => rfl
  all_goals cases same

/-- Settles O37: the first step only pauses after the load, and address and selector are the quotient and the
remainder of the byte by 2. -/
theorem sendaSendsTwiceTheAddress : Obligations.SendaSendsTwiceTheAddress := by
  constructor
  · intro s rw ready
    obtain ⟨-, enters⟩ := enters_of_sentByte (i := .senda rw) ready rfl
    refine ⟨_, exec_goesOn (n' := 1) enters rfl rfl rfl (by simp [sendMicros]), ?_⟩
    refine (toNat_addressByte s.slaveAddr rw).trans ?_
    cases rw <;> rfl
  · intro a b x y same
    have numbers := congrArg BitVec.toNat same
    rw [toNat_addressByte, toNat_addressByte] at numbers
    have := toNat_rwBit_lt x
    have := toNat_rwBit_lt y
    exact ⟨BitVec.eq_of_toNat_eq (by omega), rwBit_injective (by omega)⟩

/-! ## RECV on a driven SDA (45_byte_transfer R166) -/

theorem enters_recv {a : AckSel} {s : State} (ready : s.ready) : Enters (.recv a) s 0 (loadByte 0 s) :=
  enters_of_ready nofun ready

/-- Lows shifted into an empty register leave it empty. -/
theorem foldl_shiftIn_low (n : Nat) : (List.replicate n Level.low).foldl shiftIn 0 = 0 := by
  induction n with
  | zero => rfl
  | succ n ih => exact ih

/-- Settles O40: each of the eight samples of a driven line is Low. -/
theorem recvWithSdaDrivenReadsZero : Obligations.RecvWithSdaDrivenReadsZero := by
  intro a s ms m9 rest ready driven eight budgets budget held
  have gates : (ms.map (·, Level.low)).map (·.1) = ms := by simp [Function.comp_def]
  have levels : (ms.map (·, Level.low)).map (·.2) = List.replicate ms.length .low := by
    simp [Function.comp_def]
  have value : (List.replicate ms.length .low).foldl shiftIn (loadByte 0 s).sr = 0 :=
    foldl_shiftIn_low ms.length
  have run := execFor_recvByte (a := a) (ms.map (·, .low)) (r := loadByte 0 s) (enters_recv ready)
    (by simp [loadByte, eight]) (List.forall_mem_map.mpr budgets) budget
    (held.trans (by rw [List.flatMap_map])) (.inr ⟨driven, by simp, rfl⟩)
  rw [gates, levels, value, List.length_map, eight] at run
  rw [show 55 + ms.sum + m9 = ms.sum + 6 * 8 + (m9 + 7) by omega]
  exact run

/-! ## Counts of events (45_byte_transfer R169, 70_reset_and_hazards R213) -/

@[simp] theorem waitUnits_append (es fs : List Event) : waitUnits (es ++ fs) = waitUnits es + waitUnits fs := by
  induction es with
  | nil => simp [waitUnits]
  | cons e es ih => cases e <;> simp [waitUnits, ih, Nat.add_assoc]

@[simp] theorem waitUnits_replicate_sample (m : Nat) (l : Line) (v : Level) :
    waitUnits (List.replicate m (.sample l v)) = 0 := by
  induction m with
  | zero => rfl
  | succ m ih => exact ih

/-- The events of `gates` gates of the byte transfer engine that pass after `low` Low samples in all, with two
pauses of `step` units and one `DL(SCL)` each, of `sets` operations that set SDA and of `samples` samples of it. -/
structure Tally (step gates low sets samples : Nat) (es : List Event) : Prop where
  release : es.count (.rl .scl) = gates
  pass : es.count (.sample .scl .high) = gates
  held : es.count (.sample .scl .low) = low
  pauses : es.count (.wait step) = 2 * gates
  units : waitUnits es = 2 * gates * step
  lower : es.count (.dl .scl) = gates
  set : es.count (.dl .sda) + es.count (.rl .sda) = sets
  sample : es.count (.sample .sda .low) + es.count (.sample .sda .high) = samples

theorem Tally.nil (step : Nat) : Tally step 0 0 0 0 [] := by
  constructor <;> simp [waitUnits]

theorem Tally.append {step g g' l l' w w' r r' : Nat} {es fs : List Event} (h : Tally step g l w r es)
    (h' : Tally step g' l' w' r' fs) : Tally step (g + g') (l + l') (w + w') (r + r') (es ++ fs) where
  release := by rw [List.count_append, h.release, h'.release]
  pass := by rw [List.count_append, h.pass, h'.pass]
  held := by rw [List.count_append, h.held, h'.held]
  pauses := by rw [List.count_append, h.pauses, h'.pauses, Nat.mul_add]
  units := by rw [waitUnits_append, h.units, h'.units, ← Nat.add_mul, ← Nat.mul_add]
  lower := by rw [List.count_append, h.lower, h'.lower]
  set := by have := h.set; have := h'.set; simp only [List.count_append]; omega
  sample := by have := h.sample; have := h'.sample; simp only [List.count_append]; omega

theorem tally_sendBit (step : Nat) (bit : Bool) (m : Nat) :
    Tally step 1 m 1 0 (sendBitEvents step bit m).reverse := by
  cases bit <;> constructor <;>
    simp [sendBitEvents, gateEvents, waitUnits, List.count_replicate, Nat.two_mul]

theorem tally_recvBit (step : Nat) (v : Level) (m : Nat) :
    Tally step 1 m 0 1 (.wait step :: (gateEvents m ++ [.wait step, .sample .sda v, .dl .scl])).reverse := by
  cases v <;> constructor <;> simp [gateEvents, waitUnits, List.count_replicate, Nat.two_mul]

theorem tally_sendAck (step : Nat) (b : Byte) (m : Nat) (v : Level) (k : Nat) :
    Tally step 1 m 1 1 (sendEvents step b m v k []).reverse := by
  cases v <;> constructor <;> simp [sendEvents, gateEvents, waitUnits, List.count_replicate, Nat.two_mul]

theorem tally_recvAck (step : Nat) (a : AckSel) (m : Nat) :
    Tally step 1 m 2 0 (recvEvents step a m []).reverse := by
  cases a <;> constructor <;> simp [recvEvents, gateEvents, waitUnits, List.count_replicate, Nat.two_mul]

/-! ## The bit loop, whatever SDA reads -/

/-- A byte command is a sender or RECV. -/
theorem sender_or_recv {i : Instr} (byte : isByteCommand i = true) :
    writesAck i = true ∨ ∃ a, i = .recv a := by
  cases i <;> simp [isByteCommand, writesAck] at byte ⊢

theorem enters_of_byte {i : Instr} {s : State} (byte : isByteCommand i = true) (ready : s.ready) :
    Enters i s 0 ((commandOf i).prepare s) :=
  enters_of_ready (by rintro rfl; cases byte) ready

/-- A sample of SDA in any environment takes nothing from the levels presented on SCL (log 3). -/
theorem sample_sda_frame (s : State) :
    ∃ v ds n, sample .sda s = (v, { s with sdaIn := ds, draws := n, trace := .sample .sda v :: s.trace }) := by
  cases driven : s.drv .sda with
  | drivingLow => exact ⟨_, s.sdaIn, s.draws, sample_driven driven⟩
  | released =>
    rw [sample, lineLevel_released driven]
    cases levels : s.lineIn .sda with
    | nil => exact ⟨_, s.sdaIn, _, by rw [drawLevel_nil levels]; rfl⟩
    | cons v vs => exact ⟨v, vs, s.draws, by rw [drawLevel_cons levels]; rfl⟩

/-- An entry after a pause. -/
theorem runSegment_pause (m : Micro) (n : Nat) (r : State) : runSegment [.wait .step, m] n r =
    { (runMicro m { r with trace := .wait r.bitDelay.toNat :: r.trace, useq := .pos (n + 1) }).2 with
      useq := .pos (n + 2) } := rfl

/-- RECV's data sample after a pause. -/
theorem runSegment_recvBit_frame (r : State) :
    ∃ v ds n, runSegment [.wait .step, .recvBit] 3 r = { r with
      sr := shiftIn r.sr v, sdaIn := ds, draws := n
      trace := .sample .sda v :: .wait r.bitDelay.toNat :: r.trace, useq := .pos 5 } := by
  obtain ⟨v, ds, n, read⟩ := sample_sda_frame
    { r with trace := .wait r.bitDelay.toNat :: r.trace, useq := .pos 4 }
  exact ⟨v, ds, n, by simp only [runSegment_pause, runMicro, recvBit, read]⟩

/-- The acknowledgement sample of a sender after a pause. -/
theorem runSegment_sampleAck_frame (r : State) :
    ∃ v ds n, runSegment [.wait .step, .sampleAck] 10 r = { r with
      ackLatch := v, sdaIn := ds, draws := n
      trace := .sample .sda v :: .wait r.bitDelay.toNat :: r.trace, useq := .pos 12 } := by
  obtain ⟨v, ds, n, read⟩ := sample_sda_frame
    { r with trace := .wait r.bitDelay.toNat :: r.trace, useq := .pos 11 }
  exact ⟨v, ds, n, by simp only [runSegment_pause, runMicro, sampleAck, read]⟩

/-- What a run of command `i` from `r` to `t` leaves that has passed the gates `ms` of data bits and has `rest`
of the levels on SCL still to come. -/
structure BitsDone (i : Instr) (ms : List Nat) (rest : List Level) (r t : State) : Prop where
  sclIn : t.sclIn = rest
  ack : t.ack = r.ack
  level : t.level = r.level
  rxdata : t.rxdata = r.rxdata
  opened : t.opened = r.opened
  bitDelay : t.bitDelay = r.bitDelay
  stretchTimeout : t.stretchTimeout = r.stretchTimeout
  /-- A sender sets SDA for each bit, and RECV samples it. -/
  events : ∃ es, t.trace = es ++ r.trace ∧ Tally r.bitDelay.toNat ms.length ms.sum
    (if writesAck i = true then ms.length else 0) (if writesAck i = true then 0 else ms.length) es

theorem BitsDone.nil (i : Instr) (r : State) : BitsDone i [] r.sclIn r r where
  sclIn := rfl
  ack := rfl
  level := rfl
  rxdata := rfl
  opened := rfl
  bitDelay := rfl
  stretchTimeout := rfl
  events := ⟨[], rfl, by simpa using Tally.nil r.bitDelay.toNat⟩

theorem BitsDone.cons {i : Instr} {m : Nat} {ms : List Nat} {between rest : List Level} {r s t : State}
    (bit : BitsDone i [m] between r s) (bits : BitsDone i ms rest s t) : BitsDone i (m :: ms) rest r t where
  sclIn := bits.sclIn
  ack := bits.ack.trans bit.ack
  level := bits.level.trans bit.level
  rxdata := bits.rxdata.trans bit.rxdata
  opened := bits.opened.trans bit.opened
  bitDelay := bits.bitDelay.trans bit.bitDelay
  stretchTimeout := bits.stretchTimeout.trans bit.stretchTimeout
  events := by
    obtain ⟨es, trace, tally⟩ := bit.events
    obtain ⟨fs, trace', tally'⟩ := bits.events
    rw [bit.bitDelay] at tally'
    refine ⟨fs ++ es, by rw [trace', trace, List.append_assoc], ?_⟩
    have both := tally'.append tally
    cases writes : writesAck i <;> simpa [writes, Nat.add_comm] using both

/-- One data bit whose gate passes. -/
theorem execFor_bit {i : Instr} {s r : State} {m : Nat} {rest : List Level} (byte : isByteCommand i = true)
    (enters : Enters i s 0 r) (held : r.sclIn = heldFor m ++ rest) (budget : m < r.stretchTimeout.toNat) :
    ∃ t, execFor i (m + 6) s = .next t ∧ t.useq = .pos (bitEntry t.k) ∧ t.k = r.k + 1 ∧
      BitsDone i [m] rest r t := by
  obtain writes | ⟨a, rfl⟩ := sender_or_recv byte
  · refine ⟨_, execFor_sendBit writes enters held budget, rfl, rfl, ?_⟩
    exact ⟨rfl, rfl, rfl, rfl, rfl, rfl, rfl, _, rfl, by simpa [writes] using tally_sendBit ..⟩
  · have gate := execFor_gate [.wait .step] enters rfl (by decide) rfl held budget
    obtain ⟨v, ds, n, read⟩ := runSegment_recvBit_frame { r with
      drvScl := .released, p := BitVec.ofNat 32 (m + 1), sclIn := rest
      trace := (gateEvents m).reverse ++ .wait r.bitDelay.toNat :: r.trace, useq := .pos 3 }
    refine ⟨_, execFor_trans gate (n := 3) (by simp; omega) (execFor_trans (execFor_straight
      [.wait .step, .recvBit] (.inside rfl) rfl (by simp) (by decide) read) (n := 1) rfl
      (execFor_one (exec_lowerBit rfl rfl))), rfl, rfl, ?_⟩
    exact ⟨rfl, rfl, rfl, rfl, rfl, rfl, rfl, _, by simp, tally_recvBit r.bitDelay.toNat v m⟩

/-- Data bits whose gates pass, with `left` more to go: the command then enters the next bit, or the ninth clock. -/
theorem execFor_bits {i : Instr} {left : Nat} {rest : List Level} (byte : isByteCommand i = true) (ms : List Nat)
    {s r : State} (enters : Enters i s (bitEntry r.k) r) (bits : r.k.toNat + (ms.length + left) = 8)
    (budgets : ∀ m ∈ ms, m < r.stretchTimeout.toNat) (held : r.sclIn = ms.flatMap heldFor ++ rest) :
    ∃ t u, execFor i (ms.sum + 6 * ms.length) s = .next t ∧ Enters i t (bitEntry u.k) u ∧
      u.k.toNat = r.k.toNat + ms.length ∧ BitsDone i ms rest r u := by
  induction ms generalizing s r with
  | nil =>
    obtain rfl : r.sclIn = rest := held
    exact ⟨s, r, rfl, enters, rfl, .nil i r⟩
  | cons m ms ih =>
    replace bits : r.k.toNat + (ms.length + left + 1) = 8 := by rw [← bits, List.length_cons]; omega
    rw [bitEntry_left bits] at enters
    obtain ⟨t, run, at_entry, counted, bit⟩ :=
      execFor_bit byte enters (held.trans (List.append_assoc ..)) (budgets m (.head _))
    replace counted : t.k.toNat = r.k.toNat + 1 := counted ▸ toNat_bit_succ bits
    obtain ⟨t', u, run', enters', counted', done⟩ := ih (.inside at_entry) (by omega)
      (fun x hx => by rw [bit.stretchTimeout]; exact budgets x (.tail _ hx)) bit.sclIn
    refine ⟨t', u, execFor_trans run (by simp; omega) run', enters', ?_, bit.cons done⟩
    rw [counted', counted, List.length_cons]
    omega

/-- The data bits of a byte command from its first step: after eight of them the ninth clock comes next. -/
theorem execFor_dataBits {i : Instr} {ms : List Nat} {s : State} {rest : List Level}
    (byte : isByteCommand i = true) (ready : s.ready) (few : ms.length ≤ 8)
    (budgets : ∀ m ∈ ms, m < s.stretchTimeout.toNat) (held : s.sclIn = ms.flatMap heldFor ++ rest) :
    ∃ t r, execFor i (ms.sum + 6 * ms.length) s = .next t ∧
      Enters i t (if ms.length = 8 then 6 else 0) r ∧ BitsDone i ms rest s r := by
  have enters := enters_of_byte byte ready
  have start := prepare_k_of_byte s byte
  obtain ⟨b, k, p, prepared⟩ := prepare_frame i s
  rw [prepared] at enters start
  obtain rfl : k = 0 := start
  obtain ⟨t, r, run, enters', counted, done⟩ := execFor_bits (left := 8 - ms.length) byte ms
    (r := { s with sr := b, k := 0, p := p }) enters (by simp; omega) budgets held
  refine ⟨t, r, run, ?_, { done with }⟩
  have all : r.k = 8#4 ↔ ms.length = 8 := by
    rw [← BitVec.toNat_inj, counted]
    simp
  simpa only [bitEntry, all] using enters'

/-! ## The ninth clock -/

/-- The ninth clock whose gate passes, and the end of the command. -/
theorem execFor_ninthClock {i : Instr} {s r : State} {m : Nat} {rest : List Level}
    (byte : isByteCommand i = true) (enters : Enters i s 6 r) (held : r.sclIn = heldFor m ++ rest)
    (budget : m < r.stretchTimeout.toNat) :
    ∃ t es, execFor i (m + 7) s = .next t ∧ t.useq = .idle ∧ t.err = .ok ∧ t.trace = es ++ r.trace ∧
      Tally r.bitDelay.toNat 1 m (if writesAck i = true then 1 else 2) (if writesAck i = true then 1 else 0) es := by
  obtain writes | ⟨a, rfl⟩ := sender_or_recv byte
  · have list := micros_of_writesAck writes
    have gate := execFor_gate [.rl .sda, .wait .step] enters (by rw [list]; rfl) (by decide) rfl held budget
    obtain ⟨v, ds, n, read⟩ := runSegment_sampleAck_frame { r with
      drvScl := .released, drvSda := .released, p := BitVec.ofNat 32 (m + 1), sclIn := rest
      trace := (gateEvents m).reverse ++ .wait r.bitDelay.toNat :: .rl .sda :: r.trace, useq := .pos 10 }
    refine ⟨_, (sendEvents r.bitDelay.toNat 0 m v 0 []).reverse, execFor_trans gate (n := 3) (by simp; omega)
      (execFor_trans (execFor_straight [.wait .step, .sampleAck] (.inside rfl) (by rw [list]; rfl) (by simp)
        (by decide) read) (n := 1) rfl (execFor_one (exec_completes (m := .dl .scl) (.inside rfl)
          (by rw [list]; rfl) rfl (by rw [list]; rfl)))), rfl, rfl, ?_, ?_⟩
    · simp [finish_of_writesAck writes, storeAck, complete, sendEvents]
    · rw [if_pos writes, if_pos writes]
      exact tally_sendAck ..
  · exact ⟨_, _, execFor_recvAck enters held budget, rfl, rfl, rfl, tally_recvAck r.bitDelay.toNat a m⟩

/-- Settles O42: the bit loop counts eight gates, and the ninth clock one more. -/
theorem byteCommandCounts : Obligations.ByteCommandCounts := by
  intro i s ms m9 rest byte ready eight budgets budget held
  obtain ⟨s', r, bits, enters, done⟩ := execFor_dataBits byte ready eight.le budgets held
  rw [if_pos eight] at enters
  obtain ⟨t, es9, clock, idle, ok, trace9, tally9⟩ :=
    execFor_ninthClock byte enters done.sclIn (by rw [done.stretchTimeout]; exact budget)
  obtain ⟨es, trace, tally⟩ := done.events
  rw [done.bitDelay] at tally9
  have sum := tally9.append tally
  rw [eight] at sum
  refine ⟨t, es9 ++ es, execFor_trans bits (by omega) clock, idle, ok,
    by rw [trace9, trace, List.append_assoc], ?_⟩
  exact ⟨sum.release, sum.pass, sum.held.trans (Nat.add_comm ..), sum.pauses, sum.units, sum.lower,
    sum.set.trans (by split <;> rfl), sum.sample.trans (by split <;> rfl)⟩

/-! ## A clock that is held (60_exceptions R183, R184) -/

/-- A gate whose peer holds SCL for the whole budget, with the straight segment that leads to it. -/
theorem execFor_heldGate {i : Instr} (ms : List Micro) {tail : List Micro} {n : Nat} {s r u : State}
    {rest : List Level} (enters : Enters i s n r)
    (entries : (commandOf i).micros.drop n = ms ++ .gateRelease :: .gatePoll :: tail)
    (straight : ∀ m ∈ ms, m.straight = true) (after : runSegment ms n r = u)
    (held : u.sclIn = List.replicate u.stretchTimeout.toNat .low ++ rest) :
    ∃ es, execFor i (u.stretchTimeout.toNat + (ms.length + 3)) s = .next { u with
      drvScl := .released, drvSda := .released, p := u.stretchTimeout, sclIn := rest, trace := es
      err := .clockHeld, busy := false, useq := .idle } := by
  have entries' : (commandOf i).micros.drop n = (ms ++ [.gateRelease]) ++ .gatePoll :: tail := by
    simp [entries]
  have straight' : ∀ m ∈ ms ++ [.gateRelease], m.straight = true := by
    simpa [Micro.straight, or_imp, forall_and] using straight
  have released := execFor_straight _ enters entries' (by simp) straight' (runSegment_concat ..)
  rw [after] at released
  have poll : (commandOf i).micros[n + ms.length + 1]? = some .gatePoll := by
    simpa [Nat.add_assoc] using entry_after entries'
  have low := execFor_gatePoll_low (m := u.stretchTimeout.toNat) (s := { (runMicro .gateRelease u).2 with
    useq := .pos (n + ms.length + 1) }) rfl poll rfl held (by simp [runMicro])
  have spent := execFor_pollFails (i := i) (s := { u with
    drvScl := .released, p := u.stretchTimeout, sclIn := rest
    trace := List.replicate u.stretchTimeout.toNat (.sample .scl .low) ++ .rl .scl :: u.trace
    useq := .pos (n + ms.length + 1) }) rfl poll (runMicro_gatePoll_spent rfl) rfl
  refine ⟨_, execFor_trans released (n := u.stretchTimeout.toNat + 2) (by simp; omega)
    (execFor_trans low rfl (Eq.trans ?_ spent))⟩
  simp [runMicro, release]

/-- The next gate of a byte command, of a data bit or of the ninth clock, whose peer holds SCL for the whole
budget. -/
theorem execFor_heldClock {i : Instr} {ninth : Prop} [Decidable ninth] {s r : State} {rest : List Level}
    (byte : isByteCommand i = true) (enters : Enters i s (if ninth then 6 else 0) r)
    (held : r.sclIn = List.replicate r.stretchTimeout.toNat .low ++ rest) :
    ∃ es, execFor i (r.stretchTimeout.toNat + (if writesAck i = true ∨ ninth then 5 else 4)) s = .next { r with
      drvScl := .released, drvSda := .released, p := r.stretchTimeout, sclIn := rest, trace := es
      err := .clockHeld, busy := false, useq := .idle } := by
  obtain writes | ⟨a, rfl⟩ := sender_or_recv byte
  · have list := micros_of_writesAck writes
    rw [if_pos (.inl writes)]
    split at enters
    · exact (execFor_heldGate [.rl .sda, .wait .step] enters (by rw [list]; rfl) (by decide) rfl held :)
    · exact (execFor_heldGate [.wait .step, .sendBit] enters (by rw [list]; rfl) (by decide)
        (runSegment_sendBit r) held :)
  · split at enters
    case isTrue last =>
      rw [if_pos (.inr last)]
      cases a
      · exact (execFor_heldGate [.rl .sda, .wait .step] enters rfl (by decide) rfl held :)
      · exact (execFor_heldGate [.dl .sda, .wait .step] enters rfl (by decide) rfl held :)
    case isFalse data =>
      rw [if_neg (by simp [writesAck, data])]
      exact (execFor_heldGate [.wait .step] enters rfl (by decide) rfl held :)

/-- Settles O41: after the data bits whose gates pass the next gate runs out of budget. -/
theorem heldClockEndsTheByteCommand : Obligations.HeldClockEndsTheByteCommand := by
  intro i s ms rest byte ready few budgets held
  obtain ⟨s', r, bits, enters, done⟩ := execFor_dataBits byte ready few budgets held
  obtain ⟨es, run⟩ := execFor_heldClock byte enters (rest := rest) (by rw [done.sclIn, done.stretchTimeout])
  rw [done.stretchTimeout] at run
  exact ⟨_, execFor_trans bits (by omega) run, rfl, rfl, rfl, rfl, rfl, rfl, done.ack, done.level, done.rxdata,
    done.opened⟩

end Sys2Proof.Machine
end

section

/-!
Errors (60_exceptions R180 to R186): the checks at the first step, the errors each command can end with, and that
no error stops the block.
-/

namespace Sys2Proof.Machine

/-! ## The acceptance checks (60_exceptions R181) -/

/-- OPEN is turned away with AlreadyOpen or BadConfig, every other command with NotOpen. -/
theorem check_error {i : Instr} {s : State} {e : ErrCode} (refused : (commandOf i).check s = some e) :
    (i = .openSession ∧ (e = .alreadyOpen ∨ e = .badConfig)) ∨ (i ≠ .openSession ∧ e = .notOpen) := by
  by_cases hi : i = .openSession
  · subst hi
    rw [check_openSession, openCheck] at refused
    split at refused
    · cases refused; exact .inl ⟨rfl, .inl rfl⟩
    · split at refused <;> cases refused
      exact .inl ⟨rfl, .inr rfl⟩
  · rw [check_of_ne_openSession hi, needsOpen] at refused
    split at refused <;> cases refused
    exact .inr ⟨hi, rfl⟩

/-- Settles O21: each clause is an answer of the command's check, and a check that does not pass ends the command. -/
theorem acceptanceChecksInOrder : Obligations.AcceptanceChecksInOrder := by
  intro i s first
  refine ⟨fun hi closed => noLineMovesBeforeOpen.2 i s hi first closed, ?alreadyOpen, ?badConfig⟩
  case alreadyOpen =>
    rintro rfl opened
    exact exec_turnedAway first (by simp [check_openSession, openCheck, opened])
  case badConfig =>
    rintro rfl closed unset
    exact exec_turnedAway first (by simp [check_openSession, openCheck, closed, unset])

/-! ## The errors of a command (60_exceptions R180, R182) -/

/-- A controller step that ends command `i` with an error ends it with one of its own: a check's, INIT's, or that
of the poll loop whose abort release ends. -/
theorem State.Inv.own_error {i : Instr} {s t : State} (h : s.Inv) (word : decode s.cur = .ok i)
    (step : ExecStep i s t) (ended : t.useq = .idle) (failed : t.err ≠ .ok) :
    (i = .openSession ∧ (t.err = .alreadyOpen ∨ t.err = .badConfig ∨ t.err = .subsystemInitFailed)) ∨
    (i ≠ .openSession ∧ (t.err = .notOpen ∨ pollError i = some t.err)) := by
  cases step with
  | turnedAway first refused =>
    obtain ⟨rfl, opening⟩ | ⟨hi, closed⟩ := check_error refused
    · exact .inl ⟨rfl, opening.imp_right .inl⟩
    · exact .inr ⟨hi, .inl closed⟩
  | goesOn | pollFails => cases ended
  | completes => exact absurd rfl failed
  | initFails enters entry => exact .inl ⟨ownedBy_of_entry entry, .inr (.inr rfl)⟩
  | abortEnds abort =>
    have own := h.abort_own word abort
    have hi : i ≠ .openSession := by rintro rfl; cases own
    exact .inr ⟨hi, .inr own⟩

/-- An assertion of `rst` leaves no error behind (10_state R46). -/
theorem assertReset_err {s : State} (clear : s.err = .ok) : (assertReset s).err = .ok := by
  cases released : s.rst with
  | true => rw [assertReset_of_asserted released]; exact clear
  | false => rw [assertReset_of_released released]; rfl

/-- Settles O53: the invariant makes BUSY fall with the error, so the step is the controller's, or a reset, which
leaves none. -/
theorem errorsAreTheCommandsOwn : Obligations.ErrorsAreTheCommandsOwn := by
  intro s t h busy moves failed
  have after : t.Inv := everyStepKeepsTheInvariant s t h moves
  have ended : t.busy = false := by
    by_contra running
    exact failed (after.err_clear (by simpa using running))
  have idle : t.useq = .idle := after.idle_of_waiting ended
  refine ⟨ended, idle, ?_⟩
  cases machineStep_of_step moves with
  | rests | reads | resumes => simp [busy] at ended
  | writes => simp [hostWrite_busy, busy, ← Bool.not_eq_true] at ended
  | @resets ts => exact absurd (assertReset_err (s := { s with sched := ts }) (h.err_clear busy)) failed
  | rejects _ _ _ word => exact .inl ⟨rfl, _, word⟩
  | rejectedAborts _ _ _ word abort =>
    obtain ⟨-, i, own, -⟩ := h.aborting _ abort
    cases word.symm.trans own
  | @runs ts i _ _ _ _ word step =>
    obtain ⟨rfl, own⟩ | ⟨hi, own⟩ := (h.with_host ts s.reads).own_error word step idle failed
    · exact .inr (.inl ⟨word, own⟩)
    · exact .inr (.inr ⟨i, word, hi, own⟩)

/-! ## No error stops the block (60_exceptions R186) -/

/-- Every command has a first entry. -/
theorem micros_length_pos (i : Instr) : 0 < (commandOf i).micros.length := by
  cases i <;> exact Nat.succ_pos _

/-- In a state of a run the command in `cur` has a next controller step. -/
theorem State.Inv.exec_answers {i : Instr} {s : State} (h : s.Inv) (busy : s.busy = true)
    (word : decode s.cur = .ok i) : ∃ t, exec i s = .next t := by
  cases position : s.useq with
  | idle => exact absurd position (h.busy_iff.mp busy)
  | first =>
    cases check : (commandOf i).check s with
    | some e => exact ⟨_, exec_turnedAway position check⟩
    | none =>
      rw [exec_of_enters (.first position check)]
      exact microStep_answers _ (micros_length_pos i)
  | pos n =>
    obtain ⟨j, hj, inList, -⟩ := h.position n position
    obtain rfl : i = j := Except.ok.inj (word.symm.trans hj)
    rw [exec_of_enters (.inside position)]
    exact microStep_answers s inList
  | abort e => exact ⟨_, exec_abort position⟩

/-- In a state of a run an illegal word stands at its first step, which turns it away. -/
theorem State.Inv.first_of_illegal {s : State} {e : IllegalWord} (h : s.Inv) (busy : s.busy = true)
    (word : decode s.cur = .error e) : s.useq = .first := by
  cases position : s.useq with
  | idle => exact absurd position (h.busy_iff.mp busy)
  | first => rfl
  | pos n =>
    obtain ⟨i, legal, -⟩ := h.position n position
    cases word.symm.trans legal
  | abort e =>
    obtain ⟨-, i, legal, -⟩ := h.aborting e position
    cases word.symm.trans legal

/-- In a state of a run the controller's turn gives a next state. -/
theorem State.Inv.controllerTurn_answers {s : State} (h : s.Inv) : ∃ t, controllerTurn s = .next t := by
  obtain ⟨-, waits⟩ | ⟨-, busy, i, word, runs⟩ | ⟨-, busy, e, word, rejects⟩ := controllerTurn_cases s
  · exact ⟨s, waits⟩
  · rw [runs]; exact h.exec_answers busy word
  · rw [rejects]; exact ⟨_, execIllegal_of_first (h.first_of_illegal busy word)⟩

/-- A host access that the model does not admit is refused by its form or by its address (20_memory R52). -/
theorem hostAccess_answers_or_refuses (a : HostAccess) (s : State) :
    (∃ t, hostAccess a s = .next t) ∨ hostAccess a s = .refused .hostNarrowAccess ∨
      hostAccess a s = .refused .hostOutsideWindow := by
  cases a
  all_goals
    simp only [hostAccess]
    split
    · split
      · exact .inl ⟨_, rfl⟩
      · exact .inr (.inr rfl)
    · exact .inr (.inl rfl)

/-- Settles O49: the controller's turn and a change of `rst` give a next state, and a host access is the one turn
that can be refused. -/
theorem noStepStopsTheBlock : Obligations.NoStepStopsTheBlock := by
  intro s h
  obtain ⟨-, same⟩ | ⟨ts, -, same⟩ | ⟨a, ts, turn, same⟩ | ⟨ts, -, same⟩ | ⟨ts, -, same⟩ := step_cases s
  all_goals rw [same]
  · exact .inl h.controllerTurn_answers
  · exact .inl (h.with_host ts s.reads).controllerTurn_answers
  · exact (hostAccess_answers_or_refuses a _).imp_right fun refused => ⟨a, ts, turn, refused⟩
  · exact .inl ⟨_, rfl⟩
  · exact .inl ⟨_, rfl⟩

end Sys2Proof.Machine
end

section

/-!
Bounded runs (70_reset_and_hazards R212). `listBound` counts the steps of a list whose poll loops take every sample
of their budget, and `InBudget` is what a command keeps while it spends one step of its bound on each event.
-/

namespace Sys2Proof.Machine

/-! ## One event a step -/

/-- An entry adds one event to the trace, unless it is a poll loop that finds its budget used up. -/
theorem runMicro_adds_event {m : Micro} {s : State} (budget : m.loopError ≠ none → s.p ≠ s.stretchTimeout) :
    ∃ ev, (runMicro m s).2.trace = ev :: s.trace := by
  cases m
  case gatePoll =>
    obtain ⟨spent, -⟩ | ⟨-, v, -, -, trace⟩ := gatePoll_cases s
    · exact absurd spent (budget nofun)
    · exact ⟨_, trace⟩
  case busPoll =>
    obtain ⟨spent, -⟩ | ⟨-, c, d, -, -, trace⟩ := busPoll_cases s
    · exact absurd spent (budget nofun)
    · exact ⟨_, trace⟩
  case sendBit => simp only [runMicro, sendBit]; split <;> simp
  all_goals simp [runMicro, initStep, lowerBit, readLevel, recvBit, sampleAck]

/-- A poll loop that goes on has taken one more sample, within its budget. -/
theorem runMicro_poll_counts {m : Micro} {s : State} (poll : m.loopError ≠ none)
    (goes : ∀ e, (runMicro m s).1 ≠ .fail e) :
    s.p ≠ s.stretchTimeout ∧ (runMicro m s).2.p = s.p + 1 := by
  cases m
  case gatePoll =>
    obtain ⟨-, same⟩ | ⟨budget, v, -, p, -⟩ := gatePoll_cases s
    · exact absurd (congrArg Prod.fst same) (goes _)
    · exact ⟨budget, p⟩
  case busPoll =>
    obtain ⟨-, same⟩ | ⟨budget, c, d, -, p, -⟩ := busPoll_cases s
    · exact absurd (congrArg Prod.fst same) (goes _)
    · exact ⟨budget, p⟩
  all_goals exact absurd rfl poll

/-! ## Commands that end -/

/-- A run of command `i` from `s` ends it, with one event a step and at most `b` of them. -/
def EndsWithin (i : Instr) (b : Nat) (s : State) : Prop :=
  ∃ n t es, execFor i (n + 1) s = .next t ∧ t.useq = .idle ∧ t.busy = false ∧
    t.trace = es ++ s.trace ∧ es.length = n + 1 ∧ n + 1 ≤ b

theorem EndsWithin.after_step {i : Instr} {b : Nat} {s t : State} {ev : Event} (ends : EndsWithin i b t)
    (step : exec i s = .next t) (trace : t.trace = ev :: s.trace) : EndsWithin i (b + 1) s := by
  obtain ⟨n, u, es, run, idle, waiting, added, count, bound⟩ := ends
  exact ⟨n + 1, u, es ++ [ev], (execFor_succ _ step).trans run, idle, waiting, by simp [added, trace],
    by simp [count], by omega⟩

theorem endsWithin_of_last_step {i : Instr} {b : Nat} {s t : State} {e : ErrCode} {ev : Event} (room : 1 ≤ b)
    (step : exec i s = .next (endCommand e t)) (trace : t.trace = ev :: s.trace) : EndsWithin i b s :=
  ⟨0, _, [ev], execFor_one step, rfl, rfl, trace, rfl, room⟩

/-! ## The steps that are left -/

/-- The most steps that a list can take: every poll loop takes all `T` samples of its budget, and then its command
goes on with the rest of the list or ends with the two steps of the abort release (60_exceptions R184). -/
def listBound (T : Nat) : List Micro → Nat
  | [] => 0
  | m :: ms => if m.loopError = none then listBound T ms + 1 else T + max 2 (listBound T ms)

/-- The data bits that the bit loop still runs after the present one; outside the loop there are none. -/
def bitsAfter (i : Instr) (n : Nat) (s : State) : Nat :=
  if isByteCommand i = true ∧ n ≤ 5 then 7 - s.k.toNat else 0

/-- The samples that the poll loop at an entry has taken already. -/
def Micro.polled (s : State) (m : Micro) : Nat := if m.loopError = none then 0 else s.p.toNat

/-- Where entry `n` of command `i`, which is `m`, runs, `b` steps are enough to end the command, and the counters
of its loops are in their ranges. -/
structure InBudget (i : Instr) (n : Nat) (m : Micro) (b : Nat) (s : State) : Prop where
  steps : listBound s.stretchTimeout.toNat ((commandOf i).micros.drop n) +
    bitsAfter i n s * (s.stretchTimeout.toNat + 5) ≤ b + m.polled s
  poll_le : m.loopError ≠ none → s.p ≤ s.stretchTimeout
  bits : isByteCommand i = true → n ≤ 5 → s.k < 8#4

theorem drop_of_entry {i : Instr} {n : Nat} {m : Micro} (entry : (commandOf i).micros[n]? = some m) :
    (commandOf i).micros.drop n = m :: (commandOf i).micros.drop (n + 1) := by
  obtain ⟨inList, rfl⟩ := List.getElem?_eq_some_iff.mp entry
  exact List.drop_eq_getElem_cons inList

/-- Once around the bit loop (45_byte_transfer R161, R165): `T + 4` steps lead from its first entry to its last. -/
theorem listBound_of_byte {i : Instr} (T : Nat) (byte : isByteCommand i = true) :
    listBound T (commandOf i).micros = listBound T ((commandOf i).micros.drop 5) + (T + 4) := by
  cases i <;> simp only [isByteCommand, Bool.false_eq_true] at byte
  case send | senda => simp [sendMicros, listBound, Micro.loopError]; omega
  case recv a => cases a <;> simp [ackChoice, listBound, Micro.loopError] <;> omega

/-- Inside the bit loop the bits that are done change with its last entry only. -/
theorem runMicro_k_inLoop {i : Instr} {n : Nat} {m : Micro} (s : State)
    (entry : (commandOf i).micros[n]? = some m) (inLoop : n < 5) : (runMicro m s).2.k = s.k :=
  runMicro_k s (by rintro rfl; exact absurd (lowerBit_entry entry) inLoop.ne)

/-- The following entry has no more data bits after it. -/
theorem bitsAfter_succ_le {i : Instr} {n : Nat} {m : Micro} (s : State)
    (entry : (commandOf i).micros[n]? = some m) : bitsAfter i (n + 1) (runMicro m s).2 ≤ bitsAfter i n s := by
  unfold bitsAfter
  split
  case isTrue inLoop =>
    obtain ⟨byte, inLoop⟩ := inLoop
    rw [runMicro_k_inLoop s entry inLoop, if_pos ⟨byte, by omega⟩]
  case isFalse => exact Nat.zero_le _

/-- An entry that leads to the following one. -/
theorem InBudget.advance {i : Instr} {n b : Nat} {m m' : Micro} {s : State} (h : InBudget i n m (b + 1) s)
    (entry : (commandOf i).micros[n]? = some m) (goes : (runMicro m s).1 = .advance)
    (entry' : (commandOf i).micros[n + 1]? = some m') : InBudget i (n + 1) m' b (runMicro m s).2 where
  steps := by
    have steps := h.steps
    have fewer := Nat.mul_le_mul_right (s.stretchTimeout.toNat + 5) (bitsAfter_succ_le s entry)
    rw [drop_of_entry entry, listBound, Micro.polled] at steps
    rw [runMicro_stretchTimeout]
    split at steps
    case isTrue => omega
    case isFalse poll =>
      obtain ⟨budget, -⟩ := runMicro_poll_counts (s := s) poll (by simp [goes])
      have := h.poll_le poll
      have : s.p.toNat < s.stretchTimeout.toNat := by bv_omega
      omega
  poll_le poll := by
    cases m'
    case gatePoll =>
      cases entry.symm.trans (gateRelease_before_gatePoll entry').2
      simp only [runMicro]
      bv_omega
    case busPoll => cases (busPoll_entry entry').1
    all_goals exact absurd rfl poll
  bits byte inLoop := by
    rw [runMicro_k_inLoop s entry inLoop]
    exact h.bits byte (by omega)

/-- A poll loop that goes on has one sample less to take. -/
theorem InBudget.stay {i : Instr} {n b : Nat} {m : Micro} {s : State} (h : InBudget i n m (b + 1) s)
    (goes : (runMicro m s).1 = .stay) : InBudget i n m b (runMicro m s).2 := by
  have poll : m.loopError ≠ none := by obtain rfl | rfl := runMicro_stay goes <;> exact nofun
  obtain ⟨budget, counted⟩ := runMicro_poll_counts (s := s) poll (by simp [goes])
  have sample : (s.p + 1).toNat = s.p.toNat + 1 := toNat_poll_succ (h.poll_le poll) budget
  have same : (runMicro m s).2.k = s.k := runMicro_k s (by rintro rfl; exact poll rfl)
  have steps := h.steps
  refine ⟨?_, fun _ => ?_, fun byte inLoop => same ▸ h.bits byte inLoop⟩
  · simp only [bitsAfter, Micro.polled, if_neg poll, same, counted, sample, runMicro_stretchTimeout] at steps ⊢
    omega
  · have := h.poll_le poll
    rw [counted, runMicro_stretchTimeout]
    bv_omega

/-- The end of a data bit with bits left: one of them less. -/
theorem InBudget.again {i : Instr} {n b : Nat} {m m' : Micro} {s : State} (h : InBudget i n m (b + 1) s)
    (entry : (commandOf i).micros[n]? = some m) (goes : (runMicro m s).1 = .again)
    (entry' : (commandOf i).micros[0]? = some m') : InBudget i 0 m' b (runMicro m s).2 := by
  obtain ⟨rfl, left⟩ := runMicro_again goes
  obtain rfl := lowerBit_entry entry
  have byte : isByteCommand i = true := ownedBy_of_entry entry
  have inRange : s.k < 8#4 := h.bits byte le_rfl
  have bits : 7 - s.k.toNat = (7 - (s.k + 1).toNat) + 1 := by bv_omega
  have noPoll : m'.loopError = none := by
    cases i <;> simp only [isByteCommand, Bool.false_eq_true] at byte
    all_goals cases entry'; rfl
  have steps := h.steps
  refine ⟨?_, absurd noPoll, fun _ _ => ?_⟩
  · simp only [bitsAfter, byte, true_and, le_refl, if_true, bits, Nat.add_mul, Micro.polled,
      Micro.loopError] at steps
    simp only [bitsAfter, byte, true_and, Nat.zero_le, if_true, Micro.polled, noPoll, runMicro_lowerBit_k,
      runMicro_stretchTimeout, List.drop_zero, listBound_of_byte _ byte]
    omega
  · rw [runMicro_lowerBit_k]
    bv_omega

/-- An entry after which the command goes on spends one step. -/
theorem InBudget.next {i : Instr} {n n' b : Nat} {m m' : Micro} {s : State} (h : InBudget i n m (b + 1) s)
    (entry : (commandOf i).micros[n]? = some m) (goes : (runMicro m s).1.entryAfter n = some n')
    (entry' : (commandOf i).micros[n']? = some m') : InBudget i n' m' b (runMicro m s).2 := by
  cases flow : (runMicro m s).1 <;> rw [flow] at goes <;> cases goes
  case advance => exact h.advance entry flow entry'
  case stay => cases entry.symm.trans entry'; exact h.stay flow
  case again => exact h.again entry flow entry'

/-- There is always a step left, and there are two where a poll loop has used up its samples. -/
theorem InBudget.step_left {i : Instr} {n b : Nat} {m : Micro} {s : State} (h : InBudget i n m b s)
    (entry : (commandOf i).micros[n]? = some m) :
    1 ≤ b ∧ (m.loopError ≠ none → s.p = s.stretchTimeout → 2 ≤ b) := by
  have steps := h.steps
  rw [drop_of_entry entry, listBound, Micro.polled] at steps
  split at steps
  case isTrue noPoll => exact ⟨by omega, absurd noPoll⟩
  case isFalse poll =>
    have := h.poll_le poll
    have : s.p.toNat ≤ s.stretchTimeout.toNat := by bv_omega
    exact ⟨by omega, fun _ _ => by omega⟩

/-! ## Every command ends -/

theorem Enters.trace_eq {i : Instr} {n : Nat} {s r : State} (h : Enters i s n r) : r.trace = s.trace := by
  obtain ⟨_, _, _, rfl⟩ := h.frame
  rfl

/-- An entry that raises an error ends the command: INIT at once, a poll loop with the abort release. -/
theorem InBudget.endsWithin_of_fail {i : Instr} {n b : Nat} {m : Micro} {e : ErrCode} {s r : State}
    (h : InBudget i n m b r) (enters : Enters i s n r) (entry : (commandOf i).micros[n]? = some m)
    (fails : (runMicro m r).1 = .fail e) : EndsWithin i b s := by
  obtain ⟨one, two⟩ := h.step_left entry
  obtain ⟨rfl, rfl⟩ | ⟨loop, spent, same⟩ := runMicro_fail fails
  · have step := exec_fails enters entry (Prod.ext fails rfl)
    rw [raiseError_ends _ rfl] at step
    exact endsWithin_of_last_step one step (enters.trace_eq ▸ initRequest_trace r)
  · have run := execFor_budgetSpent enters entry (Prod.ext fails same) (aborts_of_loopError loop)
    exact ⟨1, _, [.rl .sda, .rl .scl], run, rfl, rfl, by simp [enters.trace_eq], rfl,
      two (by simp [loop]) spent⟩

/-- From each entry the command ends within its budget. -/
theorem InBudget.endsWithin {i : Instr} {n b : Nat} {m : Micro} {s r : State} (h : InBudget i n m b r)
    (enters : Enters i s n r) (entry : (commandOf i).micros[n]? = some m) : EndsWithin i b s := by
  induction b generalizing n m s r with
  | zero => exact absurd (h.step_left entry).1 (by decide)
  | succ b ih =>
    by_cases fails : ∃ e, (runMicro m r).1 = .fail e
    · obtain ⟨e, fails⟩ := fails
      exact h.endsWithin_of_fail enters entry fails
    have goesOn := not_exists.mp fails
    obtain ⟨ev, added⟩ := runMicro_adds_event fun poll => (runMicro_poll_counts poll goesOn).1
    rw [enters.trace_eq] at added
    have inside (n') (goes : (runMicro m r).1.entryAfter n = some n')
        (inList : n' < (commandOf i).micros.length) : EndsWithin i (b + 1) s := by
      have step := exec_goesOn enters entry (Prod.eta _).symm goes inList
      have entry' := List.getElem?_eq_getElem inList
      have next : InBudget i n' _ b { (runMicro m r).2 with useq := .pos n' } :=
        { h.next entry goes entry' with }
      exact (ih next (.inside rfl) entry').after_step step added
    have short : n < (commandOf i).micros.length := (List.getElem?_eq_some_iff.mp entry).1
    cases flow : (runMicro m r).1 with
    | advance =>
      by_cases more : n + 1 < (commandOf i).micros.length
      · exact inside (n + 1) (by rw [flow]; rfl) more
      · have step := exec_completes enters entry (Prod.ext flow rfl) (by omega)
        obtain ⟨_, _, _, finished⟩ := finish_frame i (runMicro m r).2
        exact endsWithin_of_last_step (by omega) step (by rw [finished]; exact added)
    | stay => exact inside n (by rw [flow]; rfl) short
    | again => exact inside 0 (by rw [flow]; rfl) (micros_length_pos i)
    | fail e => exact absurd flow (goesOn e)

/-- R212 gives each command room for its list and, for the byte commands, seven further rounds of the bit loop. -/
theorem listBound_le_microBound (i : Instr) (T : Nat) :
    listBound T (commandOf i).micros + (if isByteCommand i = true then 7 else 0) * (T + 5) ≤ microBound i T := by
  cases i
  case send | senda => simp [sendMicros, listBound, Micro.loopError, isByteCommand, microBound]; omega
  case recv a => cases a <;> simp [ackChoice, listBound, Micro.loopError, isByteCommand, microBound] <;> omega
  all_goals simp [listBound, Micro.loopError, isByteCommand, microBound]

/-- A command that has passed its checks has the budget of R212. -/
theorem inBudget_of_passes {i : Instr} {m : Micro} (s : State) (entry : (commandOf i).micros[0]? = some m) :
    InBudget i 0 m (microBound i s.stretchTimeout.toNat) ((commandOf i).prepare s) where
  steps := by
    have bound := listBound_le_microBound i s.stretchTimeout.toNat
    have bits : bitsAfter i 0 ((commandOf i).prepare s) = if isByteCommand i = true then 7 else 0 := by
      unfold bitsAfter
      cases byte : isByteCommand i with
      | true => simp [prepare_k_of_byte s byte]
      | false => rfl
    have same : ((commandOf i).prepare s).stretchTimeout = s.stretchTimeout := by
      obtain ⟨_, _, _, prepared⟩ := prepare_frame i s
      rw [prepared]
    rw [same, bits, List.drop_zero]
    exact bound.trans (Nat.le_add_right ..)
  poll_le poll := by
    cases m
    case gatePoll => exact absurd (gateRelease_before_gatePoll entry).1 (lt_irrefl 0)
    case busPoll =>
      rw [(busPoll_entry entry).2.2]
      simp only [clearPoll]
      bv_omega
    all_goals exact absurd rfl poll
  bits byte _ := by simp [prepare_k_of_byte s byte]

/-- Settles O44: a command that a check turns away ends at its first step, and any other has the budget of R212 for
its list, of which it spends one for each step and event. -/
theorem everyCommandEndsWithinItsBound : Obligations.EveryCommandEndsWithinItsBound := by
  intro i s first
  cases check : (commandOf i).check s with
  | some e =>
    exact ⟨1, endCommand e s, [], Nat.one_pos, execFor_one (exec_turnedAway first check), rfl, rfl, rfl,
      Nat.zero_le _, le_rfl⟩
  | none =>
    have entry := List.getElem?_eq_getElem (micros_length_pos i)
    obtain ⟨n, t, es, run, idle, waiting, trace, count, bound⟩ :=
      (inBudget_of_passes s entry).endsWithin (.first first check) entry
    exact ⟨n + 1, t, es, n.succ_pos, run, idle, waiting, trace, count ▸ bound, by omega⟩

end Sys2Proof.Machine
end

section

/-!
Waiting, reset and the results of a busy block (70_reset_and_hazards R200 to R207, R214).
-/

namespace Sys2Proof.Machine

/-! ## The controller at rest -/

/-- With nothing to run the controller's turn changes nothing (70_reset_and_hazards R200, R202). -/
theorem controllerTurn_of_quiet {s : State} (quiet : s.rst = true ∨ s.busy = false) :
    controllerTurn s = .next s := by
  obtain asserted | waiting := quiet
  · simp [controllerTurn, asserted]
  · simp [controllerTurn, waiting]

/-- The controller's turn is next when no turn is listed (20_memory R62). -/
theorem step_of_empty {s : State} (empty : s.sched = []) : step s = controllerTurn s := by
  simp only [step, nextTurn, empty]

/-- A listed turn is taken off the list (20_memory R62). -/
theorem step_of_turn {s : State} {t : Turn} {ts : List Turn} (turn : s.sched = t :: ts) :
    step s = takeTurn t { s with sched := ts } := by
  simp only [step, nextTurn, turn]

/-- Settles O19: the turn is the controller's, and it has nothing to run. -/
theorem waitsForACommand : Obligations.WaitsForACommand := by
  rintro s ⟨waiting, empty⟩
  rw [step_of_empty empty, controllerTurn_of_quiet (.inr waiting)]

/-! ## While `rst` is asserted (70_reset_and_hazards R200) -/

/-- A register under reset shows its value from 10_state R46: STATUS its word, every other register 0. -/
theorem readReg_of_held {s : State} (r : WinReg) (held : holdReset s = s) :
    readReg r s = if r = .status then 0x00000004 else 0 := by
  rw [← held]
  cases r
  case status => exact statusWord_holdReset s
  all_goals rfl

/-- The window has a register at each of its words, STATUS at the second (20_memory R51). -/
theorem regAt_word {j : Nat} (inWindow : j < 8) : ∃ r, regAt (4 * j) = some r ∧ (r = .status ↔ j = 1) := by
  interval_cases j <;> simp [regAt]

/-- Settles O8: an assertion adds its event to the state of R46, and under `rst` each turn is taken off the list and
reaches nothing. -/
theorem resetAbandonsTheCommand : Obligations.ResetAbandonsTheCommand := by
  intro s ts
  refine ⟨fun released turn => ?asserts, fun asserted => ⟨fun empty => ?waits, fun turn => ?turns,
    fun j v inWindow turn => ?writes, fun j inv inWindow turn => ?reads, fun turn => ?releases⟩⟩
  case asserts =>
    refine ⟨assertReset { s with sched := ts }, step_of_turn turn, ?_⟩
    rw [assertReset_of_released (s := { s with sched := ts }) released]
    exact ⟨rfl, rfl, rfl⟩
  case waits => rw [step_of_empty empty, controllerTurn_of_quiet (.inl asserted)]
  case turns =>
    obtain turn | turn := turn
    · exact (step_of_turn turn).trans (controllerTurn_of_quiet (.inl asserted))
    · exact (step_of_turn turn).trans (congrArg Host.Outcome.next
        (assertReset_of_asserted (s := { s with sched := ts }) asserted))
  case writes =>
    obtain ⟨r, reg, -⟩ := regAt_word inWindow
    rw [step_write turn (Nat.mul_mod_right 4 j) reg]
    exact congrArg _ (hostWrite_of_asserted r v asserted)
  case reads =>
    obtain ⟨r, reg, status⟩ := regAt_word inWindow
    rw [step_read turn (Nat.mul_mod_right 4 j) reg, readReg_of_held r (inv.reset_held asserted)]
    simp only [status]
  case releases => exact step_of_turn turn

/-! ## While a command executes (70_reset_and_hazards R207) -/

/-- No command executes while `rst` is asserted (70_reset_and_hazards R200). -/
theorem State.Inv.waiting_of_asserted {s : State} (h : s.Inv) (asserted : s.rst = true) : s.busy = false := by
  rw [← h.reset_held asserted]
  rfl

/-- Settles O55: the invariant keeps ERR clear, and a result is written only by a step that clears BUSY, or by a
reset, which leaves no command executing. -/
theorem resultsOfABusyBlockAreOld : Obligations.ResultsOfABusyBlockAreOld := by
  intro s t inv _ moves busy
  have after : t.Inv := everyStepKeepsTheInvariant s t inv moves
  have running : t.busy ≠ false := by simp [busy]
  refine ⟨after.err_clear busy, ?_⟩
  obtain ⟨ts, turn⟩ | ⟨ack, level, rxdata⟩ := resultsWrittenOnlyAtCompletion s t moves
  · cases (step_of_turn turn).symm.trans moves
    exact absurd (after.waiting_of_asserted (assertReset_rst _)) running
  · exact ⟨ack.resolve_right fun ⟨_, ended, _⟩ => running ended,
      level.resolve_right fun ⟨_, ended, _⟩ => running ended,
      rxdata.resolve_right fun ⟨_, ended, _⟩ => running ended⟩

end Sys2Proof.Machine
end
